-- ==== Sys2Proof/Word.lean ====
section
/-! DEFINITION. The machine's words: the bytes of the transport and of source memory, the 16-bit coordinate fields and the
32-bit words of a request descriptor (30_encoding.md R50, R53). -/

namespace Sys2Proof

/-- A byte: a command, a parameter, a pixel byte (R56), a byte of source memory (R31). -/
abbrev Byte := BitVec 8

/-- A coordinate field of the request descriptor, read as a signed number (R50, R53). -/
abbrev Half := BitVec 16

/-- One word of the request descriptor, and the base address of a bitmap (R50). -/
abbrev Word := BitVec 32

end Sys2Proof
end

