-- ==== Sys2Proof/Syntax.lean ====
section
/-! DEFINITION. The instructions: one constructor for each row of spec/opcode_table.json. Eighteen host operations and the
row RESERVED (30_encoding.md R50 to R54), and the seventeen controller commands (R57, R58). -/

namespace Sys2Proof

/-- The four refresh modes (10_state.md R11). -/
inductive RefreshMode where
  | fullRefresh
  | greyRefresh
  | fastRefresh
  | forcedFullRefresh
deriving DecidableEq, Repr

/-- The two panel controllers (00_scope.md glossary; 30_encoding.md R58). -/
inductive Target where
  | master
  | slave
deriving DecidableEq, Repr

/-- The four scan modes (30_encoding.md R59). -/
inductive ScanMode where
  | xIncYInc
  | xDecYInc
  | xIncYDec
  | xDecYDec
deriving DecidableEq, Repr

/-- The two planes of a controller's display RAM (20_memory.md R33). -/
inductive Plane where
  | current
  | previous
deriving DecidableEq, Repr

/-- The two source spaces (20_memory.md R30). -/
inductive SourceSpace where
  | fast
  | slow
deriving DecidableEq, Repr

/-- A rectangle field group `x, y, w, h` of the descriptor (30_encoding.md R50, words W2 and W3). -/
structure RectArgs where
  x : Half
  y : Half
  w : Half
  h : Half
deriving DecidableEq, Repr

/-- The part fields of the descriptor (R50, words W4 and W5). -/
structure PartArgs where
  xPart : Half
  yPart : Half
  wBitmap : Half
  hBitmap : Half
deriving DecidableEq, Repr

/-- The bitmap's base address and the three Source Bitmap Descriptor flags (R50, words W1 and W0). -/
structure BitmapArgs where
  base : Word
  invert : Bool
  mirrorY : Bool
  slow : Bool
deriving DecidableEq, Repr

/-- The instructions, in the order of spec/opcode_table.json. The operands of a host operation are the fields R51 says it
reads; the operands of a controller command are its target bit (R58) and those of its parameter bytes that R57 does not fix. -/
inductive Instr where
  | clearScreen (value : Byte)
  | writeScreenBuffer (value : Byte)
  | writeScreenBufferAgain (value : Byte)
  | writeImage (bitmap : BitmapArgs) (rect : RectArgs)
  | writeImageAgain (bitmap : BitmapArgs) (rect : RectArgs)
  | writeImagePart (bitmap : BitmapArgs) (part : PartArgs) (rect : RectArgs)
  | writeImagePartAgain (bitmap : BitmapArgs) (part : PartArgs) (rect : RectArgs)
  | writeImage4G (bpp : Byte) (bitmap : BitmapArgs) (rect : RectArgs)
  | writeImagePart4G (bpp : Byte) (bitmap : BitmapArgs) (part : PartArgs) (rect : RectArgs)
  | drawImage (bitmap : BitmapArgs) (rect : RectArgs)
  | drawImagePart (bitmap : BitmapArgs) (part : PartArgs) (rect : RectArgs)
  | drawImage4G (bpp : Byte) (bitmap : BitmapArgs) (rect : RectArgs)
  | drawImagePart4G (bpp : Byte) (bitmap : BitmapArgs) (part : PartArgs) (rect : RectArgs)
  | refresh (onlyPart : Bool)
  | refreshRegion (rect : RectArgs)
  | powerOff
  | hibernate
  | setRefreshMode (mode : RefreshMode)
  | reserved (opcode : Byte)
  | cmdSoftStart (parameters : List Byte)
  | cmdDeepSleep
  | cmdSoftwareReset
  | cmdTemperature18 (parameters : List Byte)
  | cmdTemperature1A (parameters : List Byte)
  | cmdMasterActivation
  | cmdUpdateControl1
  | cmdUpdateControl2 (parameters : List Byte)
  | cmdWriteCurrent (target : Target)
  | cmdWritePrevious (target : Target)
  | cmdLutLoad
  | cmdBorder (parameters : List Byte)
  | cmdSetXRange (target : Target) (first last : Byte)
  | cmdSetYRange (target : Target) (first last : Half)
  | cmdSetXCounter (target : Target) (start : Byte)
  | cmdSetYCounter (target : Target) (start : Half)
  | cmdEntryMode (target : Target) (scan : ScanMode)
deriving DecidableEq, Repr

/-- The pseudo-operation REFRESH_FULL (30_encoding.md R64). -/
abbrev Instr.refreshFull : Instr := .refresh false

/-- The pseudo-operation REFRESH_PARTIAL (R64). -/
abbrev Instr.refreshPartial : Instr := .refresh true

/-- The pseudo-operation FORCE_FULL_REFRESH (R64). -/
abbrev Instr.forceFullRefresh : Instr := .setRefreshMode .forcedFullRefresh

/-- The pseudo-operation REQUEST_FAST_REFRESH (R64). -/
abbrev Instr.requestFastRefresh : Instr := .setRefreshMode .fastRefresh

/-- The request descriptor: six 32-bit words, latched whole at acceptance (30_encoding.md R50). -/
structure Descriptor where
  w0 : Word
  w1 : Word
  w2 : Word
  w3 : Word
  w4 : Word
  w5 : Word
deriving DecidableEq, Repr

/-- An encoded instruction: a request descriptor on the request port (R50), or a controller command as its command byte and
the bytes of its operands (R57, R58). The second form's port is the model's own (DESIGN CHOICE, log 10). -/
inductive Encoded where
  | request (d : Descriptor)
  | command (bytes : List Byte)
deriving DecidableEq, Repr

/-- Why the decoder rejects an encoded instruction. A request is never rejected (R54: every opcode has a result). -/
inductive DecodeError where
  /-- A lone command of no bytes. -/
  | emptyCommand
  /-- A lone command whose code no row of the table assigns. -/
  | unknownCommand (code : Byte)
  /-- A lone command whose operand bytes are not those its row takes. -/
  | badOperands (code : Byte)
deriving DecidableEq, Repr

end Sys2Proof
end

