-- ==== Sys2Proof/Config.lean ====
section
/-! DEFINITION. The configuration record `CFG` (00_scope.md R4, R5), the test configuration `CFG_T`, and the free values: the
environment's answers and bytes to which the spec gives no value (opaque constants, so that nothing can be proved of them). -/

namespace Sys2Proof

/-- One item of a `CFG` sequence (30_encoding.md R61). -/
inductive SeqItem where
  /-- `C(code, data)`: a command and its parameter bytes. -/
  | command (code : Byte) (parameters : List Byte)
  /-- `L(code)`: a command followed by every byte of `CFG.LUT_4G`. -/
  | lut (code : Byte)
  /-- `W(ms)`: one busy-wait. -/
  | busyWait (ms : Nat)
  /-- `D(ms)`: one delay. -/
  | pause (ms : Nat)
deriving DecidableEq, Repr

/-- Is the item an `L` item (R61)? -/
def SeqItem.isLut : SeqItem → Bool
  | .lut _ => true
  | _ => false

/-- The four levels of a classified pixel (42_pixel_packer.md R101). -/
inductive GreyLevel where
  | white
  | black
  | grayNearWhite
  | grayNearBlack
deriving DecidableEq, Repr

/-- The two bits of a level: its bit in the current plane and its bit in the previous plane (R102). -/
structure PlaneBits where
  current : Bool
  previous : Bool
deriving DecidableEq, Repr

/-- `CFG.GRAY_PLANE_TABLE` (R102). -/
structure GrayPlaneTable where
  white : PlaneBits
  black : PlaneBits
  grayNearWhite : PlaneBits
  grayNearBlack : PlaneBits
deriving DecidableEq, Repr

/-- `CFG.SCAN_BYTE` (30_encoding.md R59). -/
structure ScanBytes where
  xIncYInc : Byte
  xDecYInc : Byte
  xIncYDec : Byte
  xDecYDec : Byte
deriving DecidableEq, Repr

/-- The configuration record `CFG` (00_scope.md R4). `hibernatingAtReset` is the platform parameter of 70_reset_and_hazards.md
R171 and 93_implementation_defined.md U13, which R4's table does not list (DESIGN CHOICE, log 7). -/
structure Cfg where
  width : Nat
  height : Nat
  hasResetLine : Bool
  fastFullUpdate : Bool
  initialFill : Byte
  cmdEntryMode : Byte
  scanByte : ScanBytes
  windowSettleMs : Nat
  resetMs : Nat
  powerOnMs : Nat
  powerOffMs : Nat
  fullMs : Nat
  partialMs : Nat
  greyMs : Nat
  greyThreshold8 : Byte
  grayPlaneTable : GrayPlaneTable
  lut4G : List Byte
  seqInitPlain : List SeqItem
  seqInitGrey : List SeqItem
  seqPowerOn : List SeqItem
  seqPowerOff : List SeqItem
  seqUpdateFullSlow : List SeqItem
  seqUpdateFullFast : List SeqItem
  seqUpdateGrey : List SeqItem
  borderPartData : List Byte
  updctl1PartData : List Byte
  hibernatingAtReset : Bool
deriving DecidableEq, Repr

/-- The constraints of the panel's numbers (00_scope.md R5). -/
def Cfg.geometryOk (c : Cfg) : Bool :=
  c.width % 16 == 0 && c.height % 2 == 0 && decide (16 ≤ c.width) && decide (c.width ≤ 4096)
    && decide (2 ≤ c.height) && decide (c.height ≤ 32766)

/-- An `L` item stands in `SEQ_INIT_GREY` and in no other sequence (30_encoding.md R61). -/
def Cfg.sequencesOk (c : Cfg) : Bool :=
  c.seqInitGrey.any SeqItem.isLut
    && (c.seqInitPlain ++ c.seqPowerOn ++ c.seqPowerOff ++ c.seqUpdateFullSlow ++ c.seqUpdateFullFast
        ++ c.seqUpdateGrey).all (fun item => !item.isLut)

/-- An admissible `CFG`: R5; bit 7 of `CMD_ENTRY_MODE` clear (R4); `D_WINDOW_SETTLE_MS` greater than zero (41_ram_window.md
R90); `T_GREY_MS` not smaller than `T_FULL_MS` (43_refresh_fsm.md R119); R61; and `hibernating` after reset only with a reset
line (10_state.md R21). -/
def Cfg.ok (c : Cfg) : Bool :=
  c.geometryOk && !c.cmdEntryMode.msb && decide (0 < c.windowSettleMs) && decide (c.fullMs ≤ c.greyMs) && c.sequencesOk
    && (!c.hibernatingAtReset || c.hasResetLine)

/-- The default plane table, read by its label "(current,previous)" (42_pixel_packer.md R102, 90_conflicts.md C2). -/
def Config.defaultPlaneTable : GrayPlaneTable where
  white := ⟨true, true⟩
  black := ⟨false, false⟩
  grayNearWhite := ⟨true, false⟩
  grayNearBlack := ⟨false, true⟩

/-- The test configuration `CFG_T` (00_scope.md R4, 43_refresh_fsm.md R111). Many of its values are from general knowledge
and placeholders, as the spec says (G1 to G4; PRESUMED, log 2). -/
def Config.cfgT : Cfg where
  width := 64
  height := 32
  hasResetLine := true
  fastFullUpdate := false
  initialFill := 0xFF
  cmdEntryMode := 0x11
  scanByte := ⟨0x03, 0x02, 0x01, 0x00⟩
  windowSettleMs := 1
  resetMs := 10
  powerOnMs := 100
  powerOffMs := 300
  fullMs := 2200
  partialMs := 450
  greyMs := 3000
  greyThreshold8 := 0xA0
  grayPlaneTable := Config.defaultPlaneTable
  lut4G := [0x40, 0x48, 0x80, 0x00]
  seqInitPlain := [.command 0x12 [], .busyWait 100, .command 0x18 [0x80],
    .command 0x0C [0xAE, 0xC7, 0xC3, 0xC0, 0x80], .command 0x3C [0x01]]
  seqInitGrey := [.command 0x12 [], .busyWait 100, .command 0x18 [0x80],
    .command 0x0C [0xAE, 0xC7, 0xC3, 0xC0, 0x80], .command 0x3C [0x00], .lut 0x32]
  seqPowerOn := [.command 0x22 [0xE0], .command 0x20 []]
  seqPowerOff := [.command 0x22 [0x83], .command 0x20 []]
  seqUpdateFullSlow := [.command 0x22 [0xF7], .command 0x20 []]
  seqUpdateFullFast := [.command 0x1A [0x5A], .command 0x22 [0xD7], .command 0x20 []]
  seqUpdateGrey := [.command 0x22 [0xC7], .command 0x20 []]
  borderPartData := [0x80]
  updctl1PartData := [0x00, 0x00]
  hibernatingAtReset := false

/-- The transport's answer to a busy-wait (30_encoding.md R56). -/
inductive BusyAnswer where
  | ready
  | timedOut
deriving DecidableEq, Repr

/-- FREE VALUE (log 5): whether the transport times out on the `n`-th unscripted busy-wait (43_refresh_fsm.md R112: "a free
input of the step (a draw)"). -/
opaque Config.freeBusyTimesOut : Nat → Bool

/-- FREE VALUE (log 6): the byte of a source space at an address outside what the spec defines, in the operation of the given
number (20_memory.md R32, 93_implementation_defined.md U6: `any value`). -/
opaque Config.freeSourceByte : Nat → SourceSpace → Nat → Byte

end Sys2Proof
end

