-- ==== Sys2Proof/WellFormed.lean ====
section
/-! DEFINITION. Which instructions are well formed under a configuration: those that have an encoding of their own. Every
value of every operand field of a host operation is well formed (60_exceptions.md R163); the two checks are that a RESERVED
request carries a reserved opcode (30_encoding.md R54), and that `CFG.CMD_ENTRY_MODE`, whose code is a parameter (R57), is not
the code of another command. -/

namespace Sys2Proof

/-- The opcodes R51 assigns: 0x01 to 0x12. -/
def opcodeAssigned (opcode : Byte) : Bool :=
  decide (1 ≤ opcode.toNat) && decide (opcode.toNat ≤ 18)

/-- The sixteen command codes R57 fixes, in their master form. -/
def fixedCommandCodes : List Byte :=
  [0x0C, 0x10, 0x12, 0x18, 0x1A, 0x20, 0x21, 0x22, 0x24, 0x26, 0x32, 0x3C, 0x44, 0x45, 0x4E, 0x4F]

/-- `CFG.CMD_ENTRY_MODE` has bit 7 clear (00_scope.md R4) and is no other command's code. -/
def Cfg.entryModeFree (c : Cfg) : Bool :=
  !c.cmdEntryMode.msb && !fixedCommandCodes.contains c.cmdEntryMode

/-- The well-formed instructions under a configuration. -/
def Instr.wf (c : Cfg) : Instr → Bool
  | .clearScreen _ => true
  | .writeScreenBuffer _ => true
  | .writeScreenBufferAgain _ => true
  | .writeImage _ _ => true
  | .writeImageAgain _ _ => true
  | .writeImagePart _ _ _ => true
  | .writeImagePartAgain _ _ _ => true
  | .writeImage4G _ _ _ => true
  | .writeImagePart4G _ _ _ _ => true
  | .drawImage _ _ => true
  | .drawImagePart _ _ _ => true
  | .drawImage4G _ _ _ => true
  | .drawImagePart4G _ _ _ _ => true
  | .refresh _ => true
  | .refreshRegion _ => true
  | .powerOff => true
  | .hibernate => true
  | .setRefreshMode _ => true
  | .reserved opcode => !opcodeAssigned opcode
  | .cmdSoftStart _ => true
  | .cmdDeepSleep => true
  | .cmdSoftwareReset => true
  | .cmdTemperature18 _ => true
  | .cmdTemperature1A _ => true
  | .cmdMasterActivation => true
  | .cmdUpdateControl1 => true
  | .cmdUpdateControl2 _ => true
  | .cmdWriteCurrent _ => true
  | .cmdWritePrevious _ => true
  | .cmdLutLoad => true
  | .cmdBorder _ => true
  | .cmdSetXRange _ _ _ => true
  | .cmdSetYRange _ _ _ => true
  | .cmdSetXCounter _ _ => true
  | .cmdSetYCounter _ _ => true
  | .cmdEntryMode _ _ => c.entryModeFree

end Sys2Proof
end

