-- ==== Sys2Proof/Decode.lean ====
section
/-! DEFINITION. Decoding and encoding: the request descriptor (30_encoding.md R50 to R55), the controller commands (R57 to
R60), the words of spec/opcode_table.json, and the assembler's `field=value` syntax (R63). -/

namespace Sys2Proof

/-! ### Fields -/

/-- Bits `lo + len - 1` down to `lo` of a descriptor word (R50; bit 0 is the least significant). -/
def field (w : Word) (lo len : Nat) : BitVec len := w.extractLsb' lo len

/-- One bit of a descriptor word as a flag. -/
def flag (w : Word) (lo : Nat) : Bool := w.getLsbD lo

/-- The 2-bit encoding of a refresh mode (10_state.md R11). -/
def RefreshMode.toBits : RefreshMode → BitVec 2
  | .fullRefresh => 0
  | .greyRefresh => 1
  | .fastRefresh => 2
  | .forcedFullRefresh => 3

/-- The refresh mode a 2-bit field names (R11). -/
def RefreshMode.ofBits (b : BitVec 2) : RefreshMode :=
  match b.toNat with
  | 0 => .fullRefresh
  | 1 => .greyRefresh
  | 2 => .fastRefresh
  | _ => .forcedFullRefresh

/-- The target bit `T(t)`, bit 7 of a command byte (30_encoding.md R58). -/
def Target.bit : Target → Byte
  | .master => 0x00
  | .slave => 0x80

/-- The target a command byte selects (R58). -/
def Target.ofCode (code : Byte) : Target := if code.msb then .slave else .master

/-- The operand byte of a lone CMD_ENTRY_MODE: the scan modes in the order R59 lists them (DESIGN CHOICE, log 10). -/
def ScanMode.toByte : ScanMode → Byte
  | .xIncYInc => 0
  | .xDecYInc => 1
  | .xIncYDec => 2
  | .xDecYDec => 3

/-- The scan mode an operand byte of a lone CMD_ENTRY_MODE names. -/
def ScanMode.ofByte (b : Byte) : Option ScanMode :=
  match b.toNat with
  | 0 => some .xIncYInc
  | 1 => some .xDecYInc
  | 2 => some .xIncYDec
  | 3 => some .xDecYDec
  | _ => none

/-! ### Request descriptors -/

/-- Words W1 and W0's three flags (R50). -/
def Descriptor.bitmap (d : Descriptor) : BitmapArgs where
  base := d.w1
  invert := flag d.w0 8
  mirrorY := flag d.w0 9
  slow := flag d.w0 10

/-- Words W2 and W3 (R50). -/
def Descriptor.rect (d : Descriptor) : RectArgs where
  x := field d.w2 0 16
  y := field d.w2 16 16
  w := field d.w3 0 16
  h := field d.w3 16 16

/-- Words W4 and W5 (R50). -/
def Descriptor.part (d : Descriptor) : PartArgs where
  xPart := field d.w4 0 16
  yPart := field d.w4 16 16
  wBitmap := field d.w5 0 16
  hBitmap := field d.w5 16 16

/-- The operation a descriptor requests (R51). Fields the operation does not read, and W0 bits 15:14, are ignored (R52, R55);
every opcode R51 does not assign is RESERVED (R54). -/
def decodeRequest (d : Descriptor) : Instr :=
  let value := field d.w0 16 8
  let bpp := field d.w0 24 8
  match (field d.w0 0 8).toNat with
  | 0x01 => .clearScreen value
  | 0x02 => .writeScreenBuffer value
  | 0x03 => .writeScreenBufferAgain value
  | 0x04 => .writeImage d.bitmap d.rect
  | 0x05 => .writeImageAgain d.bitmap d.rect
  | 0x06 => .writeImagePart d.bitmap d.part d.rect
  | 0x07 => .writeImagePartAgain d.bitmap d.part d.rect
  | 0x08 => .writeImage4G bpp d.bitmap d.rect
  | 0x09 => .writeImagePart4G bpp d.bitmap d.part d.rect
  | 0x0A => .drawImage d.bitmap d.rect
  | 0x0B => .drawImagePart d.bitmap d.part d.rect
  | 0x0C => .drawImage4G bpp d.bitmap d.rect
  | 0x0D => .drawImagePart4G bpp d.bitmap d.part d.rect
  | 0x0E => .refresh (flag d.w0 11)
  | 0x0F => .refreshRegion d.rect
  | 0x10 => .powerOff
  | 0x11 => .hibernate
  | 0x12 => .setRefreshMode (.ofBits (field d.w0 12 2))
  | _ => .reserved (field d.w0 0 8)

/-! ### Controller commands -/

/-- A command that takes no operand byte. -/
def withoutOperands (code : Byte) (operands : List Byte) (i : Instr) : Except DecodeError Instr :=
  if operands.isEmpty then .ok i else .error (.badOperands code)

/-- A command with one operand byte. -/
def withByte (code : Byte) (operands : List Byte) (f : Byte → Instr) : Except DecodeError Instr :=
  match operands with
  | [a] => .ok (f a)
  | _ => .error (.badOperands code)

/-- A command with two operand bytes. -/
def withTwoBytes (code : Byte) (operands : List Byte) (f : Byte → Byte → Instr) : Except DecodeError Instr :=
  match operands with
  | [a, b] => .ok (f a b)
  | _ => .error (.badOperands code)

/-- A command with one 16-bit operand, low byte first (20_memory.md R35). -/
def withRow (code : Byte) (operands : List Byte) (f : Half → Instr) : Except DecodeError Instr :=
  match operands with
  | [lo, hi] => .ok (f (hi ++ lo))
  | _ => .error (.badOperands code)

/-- A command with two 16-bit operands, each low byte first (R35). -/
def withTwoRows (code : Byte) (operands : List Byte) (f : Half → Half → Instr) : Except DecodeError Instr :=
  match operands with
  | [lo, hi, lo', hi'] => .ok (f (hi ++ lo) (hi' ++ lo'))
  | _ => .error (.badOperands code)

/-- A command with a scan mode as its operand. -/
def withScanMode (code : Byte) (operands : List Byte) (f : ScanMode → Instr) : Except DecodeError Instr :=
  match operands with
  | [a] => match ScanMode.ofByte a with
    | some m => .ok (f m)
    | none => .error (.badOperands code)
  | _ => .error (.badOperands code)

/-- The window and plane commands, whose bit 7 is the target (R57, R58: mask 0x7F), and CMD_ENTRY_MODE, whose code is
`CFG.CMD_ENTRY_MODE` (R86). -/
def decodeTargeted (c : Cfg) (code : Byte) (operands : List Byte) : Except DecodeError Instr :=
  let t := Target.ofCode code
  match (code &&& 0x7F).toNat with
  | 0x24 => withoutOperands code operands (.cmdWriteCurrent t)
  | 0x26 => withoutOperands code operands (.cmdWritePrevious t)
  | 0x44 => withTwoBytes code operands (.cmdSetXRange t)
  | 0x45 => withTwoRows code operands (.cmdSetYRange t)
  | 0x4E => withByte code operands (.cmdSetXCounter t)
  | 0x4F => withRow code operands (.cmdSetYCounter t)
  | _ =>
    if (code &&& 0x7F) = c.cmdEntryMode then withScanMode code operands (.cmdEntryMode t)
    else .error (.unknownCommand code)

/-- The controller command a command byte and its operand bytes stand for (R57). -/
def decodeCommand (c : Cfg) (bytes : List Byte) : Except DecodeError Instr :=
  match bytes with
  | [] => .error .emptyCommand
  | code :: operands =>
    match code.toNat with
    | 0x0C => .ok (.cmdSoftStart operands)
    | 0x10 => withoutOperands code operands .cmdDeepSleep
    | 0x12 => withoutOperands code operands .cmdSoftwareReset
    | 0x18 => .ok (.cmdTemperature18 operands)
    | 0x1A => .ok (.cmdTemperature1A operands)
    | 0x20 => withoutOperands code operands .cmdMasterActivation
    | 0x21 => withoutOperands code operands .cmdUpdateControl1
    | 0x22 => .ok (.cmdUpdateControl2 operands)
    | 0x32 => withoutOperands code operands .cmdLutLoad
    | 0x3C => .ok (.cmdBorder operands)
    | _ => decodeTargeted c code operands

/-- The decoder: total on any request and on any command bytes. -/
def decode (c : Cfg) : Encoded → Except DecodeError Instr
  | .request d => .ok (decodeRequest d)
  | .command bytes => decodeCommand c bytes

/-! ### The encoder -/

/-- Word W0 (R50); the reserved bits 15:14 are written as zeros. -/
def wordZero (opcode : Byte) (invert mirrorY slow onlyPart : Bool) (mode : BitVec 2) (value bpp : Byte) : Word :=
  bpp ++ value ++ 0#2 ++ mode ++ BitVec.ofBool onlyPart ++ BitVec.ofBool slow ++ BitVec.ofBool mirrorY
    ++ BitVec.ofBool invert ++ opcode

/-- A word of two 16-bit fields (R50). -/
def twoHalves (low high : Half) : Word := high ++ low

/-- The part fields of an operation without a part. -/
def PartArgs.none : PartArgs := ⟨0, 0, 0, 0⟩

/-- The rectangle fields of an operation without a rectangle. -/
def RectArgs.none : RectArgs := ⟨0, 0, 0, 0⟩

/-- The descriptor of a request that has only W0. -/
def shortRequest (w0 : Word) : Encoded := .request ⟨w0, 0, 0, 0, 0, 0⟩

/-- The descriptor of an image operation. -/
def imageRequest (opcode bpp : Byte) (b : BitmapArgs) (p : PartArgs) (r : RectArgs) : Encoded :=
  .request ⟨wordZero opcode b.invert b.mirrorY b.slow false 0 0 bpp, b.base, twoHalves r.x r.y, twoHalves r.w r.h,
    twoHalves p.xPart p.yPart, twoHalves p.wBitmap p.hBitmap⟩

/-- A 16-bit operand of a lone command, low byte first (R35). -/
def rowBytes (v : Half) : List Byte := [v.extractLsb' 0 8, v.extractLsb' 8 8]

/-- The encoder, from the same tables of R50, R51 and R57: fields an operation does not read are zeros. -/
def encode (c : Cfg) : Instr → Encoded
  | .clearScreen value => shortRequest (wordZero 0x01 false false false false 0 value 0)
  | .writeScreenBuffer value => shortRequest (wordZero 0x02 false false false false 0 value 0)
  | .writeScreenBufferAgain value => shortRequest (wordZero 0x03 false false false false 0 value 0)
  | .writeImage b r => imageRequest 0x04 0 b .none r
  | .writeImageAgain b r => imageRequest 0x05 0 b .none r
  | .writeImagePart b p r => imageRequest 0x06 0 b p r
  | .writeImagePartAgain b p r => imageRequest 0x07 0 b p r
  | .writeImage4G bpp b r => imageRequest 0x08 bpp b .none r
  | .writeImagePart4G bpp b p r => imageRequest 0x09 bpp b p r
  | .drawImage b r => imageRequest 0x0A 0 b .none r
  | .drawImagePart b p r => imageRequest 0x0B 0 b p r
  | .drawImage4G bpp b r => imageRequest 0x0C bpp b .none r
  | .drawImagePart4G bpp b p r => imageRequest 0x0D bpp b p r
  | .refresh onlyPart => shortRequest (wordZero 0x0E false false false onlyPart 0 0 0)
  | .refreshRegion r => .request ⟨wordZero 0x0F false false false false 0 0 0, 0, twoHalves r.x r.y, twoHalves r.w r.h, 0, 0⟩
  | .powerOff => shortRequest (wordZero 0x10 false false false false 0 0 0)
  | .hibernate => shortRequest (wordZero 0x11 false false false false 0 0 0)
  | .setRefreshMode mode => shortRequest (wordZero 0x12 false false false false mode.toBits 0 0)
  | .reserved opcode => shortRequest (wordZero opcode false false false false 0 0 0)
  | .cmdSoftStart parameters => .command (0x0C :: parameters)
  | .cmdDeepSleep => .command [0x10]
  | .cmdSoftwareReset => .command [0x12]
  | .cmdTemperature18 parameters => .command (0x18 :: parameters)
  | .cmdTemperature1A parameters => .command (0x1A :: parameters)
  | .cmdMasterActivation => .command [0x20]
  | .cmdUpdateControl1 => .command [0x21]
  | .cmdUpdateControl2 parameters => .command (0x22 :: parameters)
  | .cmdWriteCurrent t => .command [0x24 ||| t.bit]
  | .cmdWritePrevious t => .command [0x26 ||| t.bit]
  | .cmdLutLoad => .command [0x32]
  | .cmdBorder parameters => .command (0x3C :: parameters)
  | .cmdSetXRange t first last => .command [0x44 ||| t.bit, first, last]
  | .cmdSetYRange t first last => .command ((0x45 ||| t.bit) :: (rowBytes first ++ rowBytes last))
  | .cmdSetXCounter t start => .command [0x4E ||| t.bit, start]
  | .cmdSetYCounter t start => .command ((0x4F ||| t.bit) :: rowBytes start)
  | .cmdEntryMode t scan => .command [c.cmdEntryMode ||| t.bit, scan.toByte]

/-! ### The words of spec/opcode_table.json -/

/-- How many operand bytes a lone command takes at least (R57). -/
def operandCount (c : Cfg) (code : Byte) : Nat :=
  match (code &&& 0x7F).toNat with
  | 0x44 => 2
  | 0x45 => 4
  | 0x4E => 1
  | 0x4F => 2
  | _ => if (code &&& 0x7F) = c.cmdEntryMode then 1 else 0

/-- Is the byte the code of a controller command row (mask 0x7F for the window and plane commands and CMD_ENTRY_MODE)? -/
def isCommandCode (c : Cfg) (code : Byte) : Bool :=
  [0x0C, 0x10, 0x12, 0x18, 0x1A, 0x20, 0x21, 0x22, 0x32, 0x3C].contains code
    || [0x24, 0x26, 0x44, 0x45, 0x4E, 0x4F, c.cmdEntryMode].contains (code &&& 0x7F)

/-- The six words of a descriptor numbered from bit 0 of W0 to bit 31 of W5. -/
def Descriptor.ofNat (w : Nat) : Descriptor where
  w0 := BitVec.ofNat 32 w
  w1 := BitVec.ofNat 32 (w >>> 32)
  w2 := BitVec.ofNat 32 (w >>> 64)
  w3 := BitVec.ofNat 32 (w >>> 96)
  w4 := BitVec.ofNat 32 (w >>> 128)
  w5 := BitVec.ofNat 32 (w >>> 160)

/-- The encoded instruction whose bits a row of the opcode table gives, the bits above zero. A table word of one byte that is
no assigned opcode and is a command code is a controller command with operand bytes of zeros; every other word is a request.
Three codes, 0x0C, 0x10 and 0x12, are both an opcode and a command code, and under `CFG_T` a fourth, 0x11: they are read as
the request (log 11). -/
def tableWord (c : Cfg) (nbits w : Nat) : Encoded :=
  let code := BitVec.ofNat 8 w
  if nbits ≤ 8 && isCommandCode c code && !opcodeAssigned code then
    .command (code :: List.replicate (operandCount c code) 0)
  else
    .request (Descriptor.ofNat w)

/-- The instruction the decoder reads from a word numbered as spec/opcode_table.json numbers it. -/
def decodeTableWord (nbits w : Nat) : Option Instr :=
  match decode Config.cfgT (tableWord Config.cfgT nbits w) with
  | .ok i => some i
  | .error _ => none

/-! ### The assembler's syntax (R63) -/

/-- The value of a field of an assembler line; a field left out is zero (R63). -/
def asmField (fields : List (String × Int)) (name : String) : Int :=
  match fields with
  | [] => 0
  | (n, v) :: rest => if n = name then v else asmField rest name

/-- The bitmap fields of an assembler line. -/
def asmBitmap (fields : List (String × Int)) : BitmapArgs where
  base := BitVec.ofInt 32 (asmField fields "base")
  invert := asmField fields "invert" != 0
  mirrorY := asmField fields "mirror_y" != 0
  slow := asmField fields "slow" != 0

/-- The rectangle fields of an assembler line. -/
def asmRect (fields : List (String × Int)) : RectArgs where
  x := BitVec.ofInt 16 (asmField fields "x")
  y := BitVec.ofInt 16 (asmField fields "y")
  w := BitVec.ofInt 16 (asmField fields "w")
  h := BitVec.ofInt 16 (asmField fields "h")

/-- The part fields of an assembler line. -/
def asmPart (fields : List (String × Int)) : PartArgs where
  xPart := BitVec.ofInt 16 (asmField fields "x_part")
  yPart := BitVec.ofInt 16 (asmField fields "y_part")
  wBitmap := BitVec.ofInt 16 (asmField fields "w_bitmap")
  hBitmap := BitVec.ofInt 16 (asmField fields "h_bitmap")

/-- The request an assembler line writes: a mnemonic of R51 or a pseudo-operation of R64, and its `field=value` pairs,
from tokens (DESIGN CHOICE, log 18). -/
def assemble (mnemonic : String) (fields : List (String × Int)) : Option Instr :=
  let b := asmBitmap fields
  let r := asmRect fields
  let p := asmPart fields
  let value := BitVec.ofInt 8 (asmField fields "value")
  let bpp := BitVec.ofInt 8 (asmField fields "bpp")
  if mnemonic = "CLEAR_SCREEN" then some (.clearScreen value)
  else if mnemonic = "WRITE_SCREEN_BUFFER" then some (.writeScreenBuffer value)
  else if mnemonic = "WRITE_SCREEN_BUFFER_AGAIN" then some (.writeScreenBufferAgain value)
  else if mnemonic = "WRITE_IMAGE" then some (.writeImage b r)
  else if mnemonic = "WRITE_IMAGE_AGAIN" then some (.writeImageAgain b r)
  else if mnemonic = "WRITE_IMAGE_PART" then some (.writeImagePart b p r)
  else if mnemonic = "WRITE_IMAGE_PART_AGAIN" then some (.writeImagePartAgain b p r)
  else if mnemonic = "WRITE_IMAGE_4G" then some (.writeImage4G bpp b r)
  else if mnemonic = "WRITE_IMAGE_PART_4G" then some (.writeImagePart4G bpp b p r)
  else if mnemonic = "DRAW_IMAGE" then some (.drawImage b r)
  else if mnemonic = "DRAW_IMAGE_PART" then some (.drawImagePart b p r)
  else if mnemonic = "DRAW_IMAGE_4G" then some (.drawImage4G bpp b r)
  else if mnemonic = "DRAW_IMAGE_PART_4G" then some (.drawImagePart4G bpp b p r)
  else if mnemonic = "REFRESH" then some (.refresh (asmField fields "partial" != 0))
  else if mnemonic = "REFRESH_REGION" then some (.refreshRegion r)
  else if mnemonic = "POWER_OFF" then some .powerOff
  else if mnemonic = "HIBERNATE" then some .hibernate
  else if mnemonic = "SET_REFRESH_MODE" then some (.setRefreshMode (.ofBits (BitVec.ofInt 2 (asmField fields "mode"))))
  else if mnemonic = "REFRESH_FULL" then some .refreshFull
  else if mnemonic = "REFRESH_PARTIAL" then some .refreshPartial
  else if mnemonic = "FORCE_FULL_REFRESH" then some .forceFullRefresh
  else if mnemonic = "REQUEST_FAST_REFRESH" then some .requestFastRefresh
  else none

end Sys2Proof
end

