-- ==== Sys2Proof/Machine/State.lean ====
section
/-! DEFINITION. The machine's state, the reasons a step can stop, and the state after reset. -/

namespace Sys2Proof.Machine

/-- The eight transport events (30_encoding.md R56). -/
inductive Event where
  /-- `Cmd(c)`: one command byte; bit 7 selects the controller (R58). -/
  | cmd (code : Byte)
  /-- `Data(d)`: one parameter byte of the last command. -/
  | data (d : Byte)
  /-- `Start`: opens a bulk transfer. -/
  | startTransfer
  /-- `Bulk(d)`: one byte of a bulk stream. -/
  | bulk (d : Byte)
  /-- `End`: closes the bulk transfer. -/
  | endTransfer
  /-- `Wait(ms)`: block until busy clears or the timeout passes; the number has no further meaning (R162; log 19). -/
  | wait (ms : Nat)
  /-- `Reset`: pulse the controllers' hardware reset line. -/
  | resetLine
  /-- `Delay(ms)`: hold the stream for at least `ms`. -/
  | delay (ms : Nat)
deriving DecidableEq, Repr

/-- The completion codes, bits 3:0 of the status (R62). -/
inductive StatusCode where
  | ok
  | noopGeometry
  | noopBpp
  | hibernateSkipped
  | noopReserved
deriving DecidableEq, Repr

/-- The engine's control state (10_state.md R19). -/
inductive Engine where
  | idle
  | running
deriving DecidableEq, Repr

/-- A source memory: the bytes the host has provided, addresses strictly rising. -/
abbrev Memory := List Host.Cell

/-- The architectural state `st` of the DCP: exactly seven fields (10_state.md R10). -/
structure DcpState where
  refreshMode : RefreshMode
  powerIsOn : Bool
  displayInitialized : Bool
  grayscaleInitialized : Bool
  initialWritePending : Bool
  hibernating : Bool
  initialRefreshPending : Bool
deriving DecidableEq, Repr

/-- What the environment may present between operations (60_exceptions.md R163; 70_reset_and_hazards.md R170, R173). -/
inductive Input where
  /-- A request on the request port, or a lone command on the model's command port (log 10). -/
  | submit (e : Encoded)
  /-- The block's reset (70_reset_and_hazards.md R170). -/
  | reset
  /-- The host puts a byte into a source space (20_memory.md R43; 70_reset_and_hazards.md R173). -/
  | store (space : SourceSpace) (address : Word) (byte : Byte)
deriving DecidableEq, Repr

/-- The machine. `st`, `engine`, `latch`, `status` and `done` are the block's (10_state.md R10, R18, R19; 60_exceptions.md
R158); `events` is what a model observes of an operation (00_scope.md R3); `cfg` is the constant configuration (R4; log 1);
`srcFast` and `srcSlow` are the host's (20_memory.md R30); `port`, `busyInputs`, `draws` and `epoch` are the model's own
(logs 5, 6, 12). -/
structure State where
  st : DcpState
  engine : Engine
  latch : Descriptor
  status : Byte
  done : Bool
  events : List Event
  cfg : Cfg
  srcFast : Memory
  srcSlow : Memory
  port : List Input
  busyInputs : List BusyAnswer
  draws : Nat
  epoch : Nat
deriving DecidableEq, Repr

/-- The DCP has no fault: "The DCP raises nothing" (60_exceptions.md R150). The type has no constructor. -/
inductive Fault : Type
deriving DecidableEq, Repr

/-- Why a step has no meaning. No host operation and no controller command is refused. -/
inductive Refusal where
  /-- An instruction without a meaning yet; raised by an arm of exec only. Safe. No arm raises it. -/
  | notModelled (mnemonic : String)
  /-- Raised by the step: `CFG` breaks a constraint, "refused by the model: no behaviour is defined" (00_scope.md R5). Safe. -/
  | badConfiguration
  /-- Raised by the step: the state between two steps has a RUNNING engine, which no step leaves (log 8). Safe. -/
  | engineRunning
  /-- Raised by the step: a lone command that no row of the table encodes; never a request (log 10). Safe. -/
  | undecodable (e : DecodeError)
deriving DecidableEq, Repr

/-- The seven fields after reset (10_state.md R22), with the platform's reset value of `hibernating` (R171, U13; log 7). -/
def DcpState.afterReset (hibernatingAtReset : Bool) : DcpState where
  refreshMode := .fullRefresh
  powerIsOn := false
  displayInitialized := false
  grayscaleInitialized := false
  initialWritePending := true
  hibernating := hibernatingAtReset
  initialRefreshPending := true

/-- The machine right after reset under a configuration (70_reset_and_hazards.md R170): no request presented, no source byte
provided. The latch, the status and `done` are DESIGN CHOICES (logs 3, 4): the spec leaves them unspecified. -/
def State.resetWith (c : Cfg) : State where
  st := .afterReset c.hibernatingAtReset
  engine := .idle
  latch := ⟨0, 0, 0, 0, 0, 0⟩
  status := 0
  done := false
  events := []
  cfg := c
  srcFast := []
  srcSlow := []
  port := []
  busyInputs := []
  draws := 0
  epoch := 0

/-- The machine right after reset, with the test configuration `CFG_T` (log 1). -/
def State.reset : State := State.resetWith Config.cfgT

end Sys2Proof.Machine
end

