-- ==== Sys2Proof/Machine/Operands.lean ====
section
/-! DEFINITION. The operands: number helpers of the spec's notation (00_scope.md section 5), the signed coordinates (30_encoding.md
R53), rectangles, the source view (42_pixel_packer.md R95) and the grayscale parameters (R100). -/

namespace Sys2Proof.Machine

/-- `floor8(v)`: the multiple of 8 at or below `v`. -/
def floor8 (v : Int) : Int := 8 * (v / 8)

/-- `ceil8(v)`: the multiple of 8 at or above `v`. -/
def ceil8 (v : Int) : Int := 8 * ((v + 7) / 8)

/-- `cdiv(a, b)`: the quotient rounded up. -/
def cdiv (a b : Int) : Int := (a + b - 1) / b

/-- `lo8(v)`: the low byte of a number. -/
def lo8 (v : Int) : Byte := BitVec.ofInt 8 v

/-- `hi8(v)`: the second byte of a number. -/
def hi8 (v : Int) : Byte := BitVec.ofInt 8 (v / 256)

/-- `sext_16(v)`: the signed value of a coordinate field (R53). -/
def sext16 (v : Half) : Int := v.toInt

/-- A rectangle in pixels: `x, y` its upper-left pixel, `w, h` its extent (92_eei_decisions.md D5). -/
structure Rect where
  x : Int
  y : Int
  w : Int
  h : Int
deriving DecidableEq, Repr

/-- The rectangle of a descriptor's fields (R53). -/
def rectOf (r : RectArgs) : Rect := ⟨sext16 r.x, sext16 r.y, sext16 r.w, sext16 r.h⟩

/-- The space the flag `slow` selects (20_memory.md R30). -/
def spaceOf (slow : Bool) : SourceSpace := if slow then .slow else .fast

/-- The source view the write operations hand the packer (42_pixel_packer.md R95). -/
structure SourceView where
  space : SourceSpace
  base : Word
  bpp : Int
  stride : Int
  hsrc : Int
  xoff : Int
  yoff : Int
  invert : Bool
  mirrorY : Bool
deriving DecidableEq, Repr

/-- The number of bytes of the bitmap: `stride * height` (20_memory.md R32). -/
def SourceView.extent (src : SourceView) : Int := src.stride * src.hsrc

/-- The parameters of a grayscale format (42_pixel_packer.md R100). -/
structure GreyFormat where
  bpp : Nat
  ppb : Nat
  mask : Byte
  threshold : Byte
deriving DecidableEq, Repr

/-- The format a `bpp` field selects; any value but 2, 4 and 8 selects none: `ppb = 0` (R100, 60_exceptions.md R154). -/
def greyFormat (c : Cfg) (bpp : Byte) : Option GreyFormat :=
  match bpp.toNat with
  | 2 => some ⟨2, 4, 0xC0, 0x80⟩
  | 4 => some ⟨4, 2, 0xF0, 0xA0⟩
  | 8 => some ⟨8, 1, 0xFF, c.greyThreshold8⟩
  | _ => none

end Sys2Proof.Machine
end

