-- ==== Sys2Proof/Machine/Flags.lean ====
section
/-! DEFINITION. The completion status (30_encoding.md R62) and the tests over the state's flags that the guards and the
upgrades make (43_refresh_fsm.md R115, R121, R123). The DCP has no condition codes (10_state.md R20). -/

namespace Sys2Proof.Machine

/-- Bits 3:0 of the status (R62). -/
def StatusCode.toByte : StatusCode → Byte
  | .ok => 0x00
  | .noopGeometry => 0x01
  | .noopBpp => 0x02
  | .hibernateSkipped => 0x03
  | .noopReserved => 0x04

/-- Bit 7 of the status, `BUSY_TIMEOUT` (R62). -/
def busyTimeoutBit : Byte := 0x80

/-- Neither initialization has run since reset or hibernation: the test of EnsureInitAny (43_refresh_fsm.md R115). -/
def DcpState.uninitialized (st : DcpState) : Bool := !st.displayInitialized && !st.grayscaleInitialized

/-- The modes whose next full refresh re-initializes (R121). -/
def modeReinitializes : RefreshMode → Bool
  | .forcedFullRefresh => true
  | .fastRefresh => true
  | .fullRefresh => false
  | .greyRefresh => false

/-- A region refresh is upgraded to a full refresh: cases (a), (b) and (c) of R123. -/
def DcpState.upgradesRegion (st : DcpState) : Bool :=
  st.initialRefreshPending || st.refreshMode == .forcedFullRefresh || st.refreshMode == .greyRefresh

/-- The invariants of the flags at every operation boundary (10_state.md R21), under a configuration. -/
def DcpState.lattice (c : Cfg) (st : DcpState) : Bool :=
  !(st.displayInitialized && st.grayscaleInitialized)
    && (!st.hibernating || (!st.displayInitialized && !st.grayscaleInitialized))
    && (!st.hibernating || c.hasResetLine)
    && (st.refreshMode != .greyRefresh || !st.displayInitialized)
    && !st.powerIsOn

end Sys2Proof.Machine
end

