-- ==== Sys2Proof/Machine/Ops.lean ====
section
/-! DEFINITION. The named operations over the state: source memory, emitting events, waiting, sequences, the beginning and the
end of an operation, reset, and storing into source memory. There is no exception entry and no return from one: the DCP raises
nothing and no control goes anywhere on a failure (60_exceptions.md R150, R160); an early end is `State.complete` with its
code. -/

namespace Sys2Proof.Machine

/-! ### Source memory (20_memory.md R30 to R32) -/

/-- The byte the host has provided at an address; an unlisted address was never provided. -/
def Memory.read? : Memory → Nat → Option Byte
  | [], _ => none
  | (k, b) :: rest, a => if a = k then some b else Memory.read? rest a

/-- Provide a byte, keeping the addresses strictly rising. -/
def Memory.write : Memory → Nat → Byte → Memory
  | [], a, b => [(a, b)]
  | (k, v) :: rest, a, b =>
    if a < k then (a, b) :: (k, v) :: rest
    else if a = k then (a, b) :: rest
    else (k, v) :: Memory.write rest a b

/-- Every address of the list is above `low` and below `bound`, and they rise strictly. -/
def Memory.risingFrom (bound : Nat) : Nat → Memory → Bool
  | _, [] => true
  | low, (k, _) :: rest => decide (low ≤ k) && decide (k < bound) && Memory.risingFrom bound (k + 1) rest

/-- The canonical form: addresses strictly rising and below 2^32. No entry can equal what an unlisted address reads as, which
is no provided byte. -/
def Memory.wf (m : Memory) : Bool := Memory.risingFrom (2 ^ 32) 0 m

/-- The memory of a source space. -/
def State.memory (s : State) : SourceSpace → Memory
  | .fast => s.srcFast
  | .slow => s.srcSlow

/-- `MemRead(space, addr, 1)` (R31). A byte the host has not provided is a free value, fixed for the operation (U6; log 6). -/
def State.memRead (s : State) (space : SourceSpace) (addr : Nat) : Byte :=
  match Memory.read? (s.memory space) addr with
  | some b => b
  | none => Config.freeSourceByte s.epoch space addr

/-- The address of source byte number `idx` of a bitmap: `(B + idx) mod 2^32` (R31). -/
def SourceView.address (src : SourceView) (idx : Int) : Nat := (src.base.toNat + idx.toNat) % 2 ^ 32

/-- Source byte number `idx` of a bitmap. Outside the bitmap's extent it is `any value` (R32, 42_pixel_packer.md R108; log 6). -/
def State.sourceByte (s : State) (src : SourceView) (idx : Int) : Byte :=
  if idx < src.extent then s.memRead src.space (src.address idx)
  else Config.freeSourceByte s.epoch src.space (src.address idx)

/-- The host puts a byte into a source space, between operations (R43; 70_reset_and_hazards.md R173). -/
def State.hostStore (s : State) (space : SourceSpace) (address : Word) (byte : Byte) : State :=
  match space with
  | .fast => { s with srcFast := Memory.write s.srcFast address.toNat byte }
  | .slow => { s with srcSlow := Memory.write s.srcSlow address.toNat byte }

/-! ### Events, waits and sequences -/

/-- `emit`: append events to the operation's event list (00_scope.md section 5). -/
def State.emit (s : State) (es : List Event) : State := { s with events := s.events ++ es }

/-- Write the seven fields. -/
def State.withSt (s : State) (st : DcpState) : State := { s with st := st }

/-- The transport's answer to the next busy-wait, and the state that has taken it: a scripted input, or a free draw (43_refresh_fsm.md R112;
log 5). -/
def State.takeBusyAnswer (s : State) : Bool × State :=
  match s.busyInputs with
  | .ready :: rest => (false, { s with busyInputs := rest })
  | .timedOut :: rest => (true, { s with busyInputs := rest })
  | [] => (Config.freeBusyTimesOut s.draws, { s with draws := s.draws + 1 })

/-- Set bit `BUSY_TIMEOUT` of this operation's status when the answer was `timed_out` (R112). -/
def State.noteTimeout (s : State) (timedOut : Bool) : State :=
  { s with status := if timedOut then s.status ||| busyTimeoutBit else s.status }

/-- WaitBusy(ms) (R112): the answer changes the status and nothing else. -/
def State.waitBusy (s : State) (ms : Nat) : State :=
  let answered := (s.emit [.wait ms]).takeBusyAnswer
  answered.2.noteTimeout answered.1

/-- `Cmd(code)` and its parameter bytes as `Data` events (30_encoding.md R61). -/
def commandEvents (code : Byte) (parameters : List Byte) : List Event := .cmd code :: parameters.map .data

/-- One item of a `CFG` sequence (R61). -/
def State.emitItem (s : State) : SeqItem → State
  | .command code parameters => s.emit (commandEvents code parameters)
  | .lut code => s.emit (commandEvents code s.cfg.lut4G)
  | .busyWait ms => s.waitBusy ms
  | .pause ms => s.emit [.delay ms]

/-- EmitSeq (43_refresh_fsm.md R111). -/
def State.emitSeq : State → List SeqItem → State
  | s, [] => s
  | s, item :: rest => State.emitSeq (s.emitItem item) rest

/-! ### The beginning and the end of an operation -/

/-- An operation starts: the engine is RUNNING (10_state.md R19), the status no longer holds the last one's (60_exceptions.md
R152, R158) and no event has been emitted. -/
def State.start (s : State) : State := { s with engine := .running, done := false, status := 0, events := [] }

/-- An operation ends: its status is presented together with `done` and the engine is IDLE (R158, 10_state.md R19). -/
def State.complete (s : State) (code : StatusCode) : State :=
  { s with engine := .idle, done := true, status := s.status ||| code.toByte, epoch := s.epoch + 1 }

/-- One operation, from its acceptance to its completion: the body answers the state it leaves and its status code. -/
def State.operate (s : State) (body : State → State × StatusCode) : State :=
  let ended := body s.start
  ended.1.complete ended.2

/-- A controller command driven alone on the transport: its events, and nothing else (log 10). -/
def State.drive (s : State) (es : List Event) : State := { s with events := es }

/-- A request is accepted: its words are latched whole (10_state.md R18, 20_memory.md R43). -/
def State.accept (s : State) : Encoded → State
  | .request d => { s with latch := d }
  | .command _ => s

/-- The block's reset (70_reset_and_hazards.md R170, R172): the seven fields, an IDLE engine, no event. `CFG`, the source
memory and the inputs waiting are not changed; the latch, the status and `done` take the values of logs 3 and 4. -/
def State.applyReset (s : State) : State :=
  { s with
    st := .afterReset s.cfg.hibernatingAtReset
    engine := .idle
    latch := ⟨0, 0, 0, 0, 0, 0⟩
    status := 0
    done := false
    events := [] }

/-! ### An event as a number -/

/-- An event as a 3-bit kind with a 16-bit payload (30_encoding.md R56: "A model may encode"). A payload of milliseconds keeps its
low 16 bits (DESIGN CHOICE, log 17). -/
def Event.wire : Event → BitVec 3 × BitVec 16
  | .cmd c => (0, c.setWidth 16)
  | .data d => (1, d.setWidth 16)
  | .startTransfer => (2, 0)
  | .bulk d => (3, d.setWidth 16)
  | .endTransfer => (4, 0)
  | .wait ms => (5, BitVec.ofNat 16 ms)
  | .resetLine => (6, 0)
  | .delay ms => (7, BitVec.ofNat 16 ms)

end Sys2Proof.Machine
end

