-- ==== Sys2Proof/Machine/Partitioner.lean ====
section
/-! DEFINITION. The sub-block `display_controller_partitioner`: alignment, clipping, quadrants and Partition (40_partitioner.md). All
of it is pure: it reads `CFG.WIDTH`, `CFG.HEIGHT` and its arguments. -/

namespace Sys2Proof.Machine

/-- The panel's width in pixels. -/
def panelWidth (c : Cfg) : Int := (c.width : Int)

/-- The panel's height in pixels. -/
def panelHeight (c : Cfg) : Int := (c.height : Int)

/-- The controller width `CW = WIDTH/2` (00_scope.md R5). -/
def controllerWidth (c : Cfg) : Int := panelWidth c / 2

/-- The controller height `CH = HEIGHT` (R5). -/
def controllerHeight (c : Cfg) : Int := panelHeight c

/-- AlignWrite (R70): `xa = floor8(x)`, `wa = ceil8(w)`, independently. -/
def alignWrite (r : Rect) : Rect := { r with x := floor8 r.x, w := ceil8 r.w }

/-- A clipped rectangle with the pixels cut from its left and top (R71). -/
structure Clip where
  rect : Rect
  dx : Int
  dy : Int
deriving DecidableEq, Repr

/-- ClipToPanel (R71); `none` is EMPTY. -/
def clipToPanel (c : Cfg) (r : Rect) : Option Clip :=
  let x1 := max r.x 0
  let y1 := max r.y 0
  let w1 := min (r.x + r.w) (panelWidth c) - x1
  let h1 := min (r.y + r.h) (panelHeight c) - y1
  if w1 ≤ 0 ∨ h1 ≤ 0 then none else some ⟨⟨x1, y1, w1, h1⟩, x1 - r.x, y1 - r.y⟩

/-- AlignRegion (R72): clip first, then round outward; `none` is EMPTY. -/
def alignRegion (c : Cfg) (r : Rect) : Option Rect :=
  let x1 := max r.x 0
  let y1 := max r.y 0
  let x2 := min (r.x + r.w) (panelWidth c)
  let y2 := min (r.y + r.h) (panelHeight c)
  if r.w ≤ 0 ∨ r.h ≤ 0 then none
  else if x2 - x1 ≤ 0 ∨ y2 - y1 ≤ 0 then none
  else some ⟨floor8 x1, y1, ceil8 x2 - floor8 x1, y2 - y1⟩

/-- The four quadrants (R73). -/
inductive Quadrant where
  | slaveUpper
  | slaveLower
  | masterUpper
  | masterLower
deriving DecidableEq, Repr

/-- The order in which the partitioner visits the quadrants (R73). -/
def Quadrant.all : List Quadrant := [.slaveUpper, .slaveLower, .masterUpper, .masterLower]

/-- The controller a quadrant belongs to (R73). -/
def Quadrant.target : Quadrant → Target
  | .slaveUpper => .slave
  | .slaveLower => .slave
  | .masterUpper => .master
  | .masterLower => .master

/-- The scan mode of a quadrant (R73). -/
def Quadrant.scan : Quadrant → ScanMode
  | .slaveUpper => .xIncYInc
  | .slaveLower => .xIncYInc
  | .masterUpper => .xDecYDec
  | .masterLower => .xDecYDec

/-- The global x range of a quadrant, its upper end exclusive (R73). -/
def Quadrant.xRange (c : Cfg) (q : Quadrant) : Int × Int :=
  match q.target with
  | .slave => (0, panelWidth c / 2)
  | .master => (panelWidth c / 2, panelWidth c)

/-- The global y range of a quadrant, its upper end exclusive (R73). -/
def Quadrant.yRange (c : Cfg) : Quadrant → Int × Int
  | .slaveUpper => (0, panelHeight c / 2)
  | .slaveLower => (panelHeight c / 2, panelHeight c)
  | .masterUpper => (0, panelHeight c / 2)
  | .masterLower => (panelHeight c / 2, panelHeight c)

/-- A sub-rectangle (R78): target, scan mode, local origin, extent and source offset. -/
structure SubRect where
  target : Target
  scan : ScanMode
  lx : Int
  ly : Int
  w : Int
  h : Int
  sdx : Int
  sdy : Int
deriving DecidableEq, Repr

/-- Local coordinates of the intersection `[ix0, ix1) × [iy0, iy1)` (R75): the identity for SLAVE, the point reflection for
MASTER. -/
def localOrigin (c : Cfg) (t : Target) (ix0 iy0 ix1 iy1 : Int) : Int × Int :=
  match t with
  | .slave => (ix0, iy0)
  | .master => (panelWidth c - ix1, panelHeight c - iy1)

/-- The sub-rectangle of one quadrant (R74, R76), or nothing where the intersection is empty (R77). -/
def subRectOf (c : Cfg) (clip : Clip) (q : Quadrant) : Option SubRect :=
  let r := clip.rect
  let ix0 := max r.x (q.xRange c).1
  let ix1 := min (r.x + r.w) (q.xRange c).2
  let iy0 := max r.y (q.yRange c).1
  let iy1 := min (r.y + r.h) (q.yRange c).2
  if ix1 - ix0 ≤ 0 ∨ iy1 - iy0 ≤ 0 then none
  else
    let origin := localOrigin c q.target ix0 iy0 ix1 iy1
    some ⟨q.target, q.scan, origin.1, origin.2, ix1 - ix0, iy1 - iy0, clip.dx + (ix0 - r.x), clip.dy + (iy0 - r.y)⟩

/-- Partition (R74): one sub-rectangle for each quadrant the rectangle overlaps, in the order of R73. -/
def partition (c : Cfg) (clip : Clip) : List SubRect := Quadrant.all.filterMap (subRectOf c clip)

/-- The whole panel with no trim (44_write_ops.md R132). -/
def wholePanel (c : Cfg) : Clip := ⟨⟨0, 0, panelWidth c, panelHeight c⟩, 0, 0⟩

end Sys2Proof.Machine
end

