-- ==== Sys2Proof/Machine/Window.lean ====
section
/-! DEFINITION. The sub-block `ram_window_programmer`: SetWindow and its five commands (41_ram_window.md R85 to R90). -/

namespace Sys2Proof.Machine

/-- Does the scan mode increment x (R85)? -/
def scanIncX : ScanMode → Bool
  | .xIncYInc => true
  | .xIncYDec => true
  | .xDecYInc => false
  | .xDecYDec => false

/-- Does the scan mode increment y (R85)? -/
def scanIncY : ScanMode → Bool
  | .xIncYInc => true
  | .xDecYInc => true
  | .xIncYDec => false
  | .xDecYDec => false

/-- `CFG.SCAN_BYTE[m]` (30_encoding.md R59). -/
def scanByte (c : Cfg) : ScanMode → Byte
  | .xIncYInc => c.scanByte.xIncYInc
  | .xDecYInc => c.scanByte.xDecYInc
  | .xIncYDec => c.scanByte.xIncYDec
  | .xDecYDec => c.scanByte.xDecYDec

/-- The entry-mode command (R86). -/
def entryModeEvents (c : Cfg) (t : Target) (m : ScanMode) : List Event :=
  commandEvents (c.cmdEntryMode ||| t.bit) [scanByte c m]

/-- The X address range, command 0x44 (R87). -/
def xRangeEvents (t : Target) (first last : Byte) : List Event := commandEvents (0x44 ||| t.bit) [first, last]

/-- The Y address range, command 0x45, each row low byte first (R88). -/
def yRangeEvents (t : Target) (firstLo firstHi lastLo lastHi : Byte) : List Event :=
  commandEvents (0x45 ||| t.bit) [firstLo, firstHi, lastLo, lastHi]

/-- The X address counter, command 0x4E (R89). -/
def xCounterEvents (t : Target) (start : Byte) : List Event := commandEvents (0x4E ||| t.bit) [start]

/-- The Y address counter, command 0x4F, low byte first (R89). -/
def yCounterEvents (t : Target) (lo hi : Byte) : List Event := commandEvents (0x4F ||| t.bit) [lo, hi]

/-- The byte columns where the X scan starts and ends (R85, 30_encoding.md R60). -/
def columnEnds (m : ScanMode) (lx w : Int) : Int × Int :=
  let xs := lx / 8
  let xe := (lx + w) / 8 - 1
  if scanIncX m then (xs, xe) else (xe, xs)

/-- The rows where the Y scan starts and ends (R85). -/
def rowEnds (m : ScanMode) (ly h : Int) : Int × Int :=
  let ye := ly + h - 1
  if scanIncY m then (ly, ye) else (ye, ly)

/-- SetWindow (R85): five commands and the settle delay (R90). -/
def setWindow (c : Cfg) (t : Target) (m : ScanMode) (lx ly w h : Int) : List Event :=
  let cols := columnEnds m lx w
  let rows := rowEnds m ly h
  entryModeEvents c t m
    ++ xRangeEvents t (lo8 cols.1) (lo8 cols.2)
    ++ yRangeEvents t (lo8 rows.1) (hi8 rows.1) (lo8 rows.2) (hi8 rows.2)
    ++ xCounterEvents t (lo8 cols.1)
    ++ yCounterEvents t (lo8 rows.1) (hi8 rows.1)
    ++ [.delay c.windowSettleMs]

/-- SetWindow of a sub-rectangle (44_write_ops.md R131). -/
def windowOf (c : Cfg) (sub : SubRect) : List Event := setWindow c sub.target sub.scan sub.lx sub.ly sub.w sub.h

end Sys2Proof.Machine
end

