-- ==== Sys2Proof/Machine/Packer.lean ====
section
/-! DEFINITION. The sub-block `pixel_packer_1bpp_4bpp`: the byte stream of one plane of one sub-rectangle (42_pixel_packer.md). It
reads source memory and writes no state. -/

namespace Sys2Proof.Machine

/-- The row inside the bitmap that row `i` of a sub-rectangle shows, mirrored when the flag is set (R96). -/
def sourceRow (src : SourceView) (sub : SubRect) (i : Nat) : Int :=
  let row := src.yoff + sub.sdy + i
  if src.mirrorY then src.hsrc - 1 - row else row

/-- A source byte, complemented when `invert` is set (R97, R106). -/
def State.workingByte (s : State) (src : SourceView) (idx : Int) : Byte :=
  if src.invert then ~~~(s.sourceByte src idx) else s.sourceByte src idx

/-- The bytes of a sub-rectangle, row by row from the top and left to right (41_ram_window.md R92). -/
def subBytes (sub : SubRect) (byte : Nat → Nat → Byte) : List Byte :=
  (List.range sub.h.toNat).flatMap fun i => (List.range (sub.w / 8).toNat).map fun j => byte i j

/-- A bulk transfer: `Start`, the bytes, `End` (30_encoding.md R56). -/
def transfer (bytes : List Byte) : List Event := .startTransfer :: (bytes.map .bulk ++ [.endTransfer])

/-- The index of the source byte of column `j` of row `i`, mono (R98). -/
def monoIndex (src : SourceView) (sub : SubRect) (i j : Nat) : Int :=
  sourceRow src sub i * src.stride + (src.xoff + sub.sdx) / 8 + j

/-- The bytes StreamMono sends (R98). -/
def State.monoBytes (s : State) (sub : SubRect) (src : SourceView) : List Byte :=
  subBytes sub fun i j => s.workingByte src (monoIndex src sub i j)

/-- The bytes StreamFill sends (R99). -/
def fillBytes (sub : SubRect) (value : Byte) : List Byte := List.replicate (sub.w / 8 * sub.h).toNat value

/-- The level of a masked pixel value, tested in the order of R101. -/
def classify (f : GreyFormat) (v : Byte) : GreyLevel :=
  if v = f.mask then .white
  else if v = 0x00 then .black
  else if f.threshold.toNat ≤ v.toNat then .grayNearWhite
  else .grayNearBlack

/-- The row of the plane table for a level (R102). -/
def levelBits (t : GrayPlaneTable) : GreyLevel → PlaneBits
  | .white => t.white
  | .black => t.black
  | .grayNearWhite => t.grayNearWhite
  | .grayNearBlack => t.grayNearBlack

/-- `bit(plane, level)` (R102). -/
def planeBit (t : GrayPlaneTable) (plane : Plane) (level : GreyLevel) : Bool :=
  match plane with
  | .current => (levelBits t level).current
  | .previous => (levelBits t level).previous

/-- Shift the bits of `n` pixels of a source byte into an output byte, leftmost first (R103). -/
def packPixels (t : GrayPlaneTable) (f : GreyFormat) (plane : Plane) : Nat → Byte → Byte → Byte
  | 0, _, out => out
  | n + 1, b, out =>
    packPixels t f plane n (b <<< f.bpp)
      ((out <<< 1) ||| (BitVec.ofBool (planeBit t plane (classify f (b &&& f.mask)))).setWidth 8)

/-- The index of source byte `k` of output byte `j` of row `i`, grayscale (R103). -/
def greyIndex (src : SourceView) (f : GreyFormat) (sub : SubRect) (i j k : Nat) : Int :=
  sourceRow src sub i * src.stride + (src.xoff + sub.sdx) / f.ppb + j * f.bpp + k

/-- The output byte before the polarity complement, packed from its source bytes in order. -/
def packBytes (t : GrayPlaneTable) (f : GreyFormat) (plane : Plane) (bytes : List Byte) : Byte :=
  bytes.foldl (fun out b => packPixels t f plane f.ppb b out) 0

/-- PackGrey (R103), with the polarity complement of R105. -/
def State.packGrey (s : State) (f : GreyFormat) (plane : Plane) (sub : SubRect) (src : SourceView) (i j : Nat) : Byte :=
  ~~~(packBytes s.cfg.grayPlaneTable f plane
    ((List.range f.bpp).map fun k => s.workingByte src (greyIndex src f sub i j k)))

/-- The bytes StreamGrey sends (R104). -/
def State.greyBytes (s : State) (f : GreyFormat) (plane : Plane) (sub : SubRect) (src : SourceView) : List Byte :=
  subBytes sub fun i j => s.packGrey f plane sub src i j

end Sys2Proof.Machine
end

