-- ==== Sys2Proof/Machine/RefreshFsm.lean ====
section
/-! DEFINITION. The sub-block `refresh_mode_fsm`: initialization, power and update sequences, the guards, FullRefresh and the
region refresh (43_refresh_fsm.md). -/

namespace Sys2Proof.Machine

/-- The wake of a hibernating controller: `Reset` and `Delay(CFG.D_RESET_MS)`; `hibernating` is cleared (R113, R114). -/
def State.wake (s : State) : State :=
  (if s.st.hibernating then s.emit [.resetLine, .delay s.cfg.resetMs] else s).withSt { s.st with hibernating := false }

/-- InitPlain (R113). -/
def State.initPlain (s : State) : State :=
  let sent := s.wake.emitSeq s.cfg.seqInitPlain
  sent.withSt
    { sent.st with displayInitialized := true, grayscaleInitialized := false, refreshMode := .fullRefresh }

/-- InitGrey (R114). -/
def State.initGrey (s : State) : State :=
  let sent := s.wake.emitSeq s.cfg.seqInitGrey
  sent.withSt
    { sent.st with grayscaleInitialized := true, displayInitialized := false, refreshMode := .greyRefresh }

/-- EnsureInitPlain (R115). -/
def State.ensureInitPlain (s : State) : State := if s.st.displayInitialized then s else s.initPlain

/-- EnsureInitGrey (R115). -/
def State.ensureInitGrey (s : State) : State := if s.st.grayscaleInitialized then s else s.initGrey

/-- EnsureInitAny (R115). -/
def State.ensureInitAny (s : State) : State := if s.st.uninitialized then s.initPlain else s

/-- Write `power_is_on`. -/
def State.setPower (s : State) (on : Bool) : State := s.withSt { s.st with powerIsOn := on }

/-- PowerOn (R116). -/
def State.powerOn (s : State) : State :=
  (if s.st.powerIsOn then s else (s.emitSeq s.cfg.seqPowerOn).waitBusy s.cfg.powerOnMs).setPower true

/-- PowerOff (R117). -/
def State.powerOff (s : State) : State :=
  (if s.st.powerIsOn then (s.emitSeq s.cfg.seqPowerOff).waitBusy s.cfg.powerOffMs else s).setPower false

/-- The sequence of a full update, by the compile-time flag (R118). -/
def fullUpdateSeq (c : Cfg) : List SeqItem := if c.fastFullUpdate then c.seqUpdateFullFast else c.seqUpdateFullSlow

/-- UpdateFull (R118). -/
def State.updateFull (s : State) : State :=
  ((s.powerOn.emitSeq (fullUpdateSeq s.cfg)).waitBusy s.cfg.fullMs).setPower false

/-- UpdateGrey (R119). -/
def State.updateGrey (s : State) : State :=
  ((s.powerOn.emitSeq s.cfg.seqUpdateGrey).waitBusy s.cfg.greyMs).setPower false

/-- The commands of the partial update, before its wait (R120). -/
def partialUpdateEvents (c : Cfg) : List Event :=
  commandEvents 0x3C c.borderPartData ++ commandEvents 0x21 c.updctl1PartData ++ commandEvents 0x22 [0xFF]
    ++ commandEvents 0x20 []

/-- UpdatePart (R120). -/
def State.updatePart (s : State) : State :=
  ((s.emit (partialUpdateEvents s.cfg)).waitBusy s.cfg.partialMs).setPower false

/-- The re-initialization of the modes `forced_full_refresh` and `fast_refresh` before a full refresh (R121). -/
def State.reinitialize (s : State) : State := if modeReinitializes s.st.refreshMode then s.initPlain else s

/-- The update sequence matching the current mode (R121). -/
def State.updateByMode (s : State) : State :=
  if s.st.refreshMode = .greyRefresh then s.updateGrey else s.updateFull

/-- FullRefresh (R121). -/
def State.fullRefresh (s : State) : State :=
  let updated := s.ensureInitAny.reinitialize.updateByMode
  updated.withSt { updated.st with initialRefreshPending := false }

/-- The partial update of a region that is not upgraded, with the re-initialization of `fast_refresh` (R123 e). -/
def State.partialRefresh (s : State) : State :=
  let ready := s.ensureInitAny
  (if ready.st.refreshMode = .fastRefresh then ready.initPlain else ready).updatePart

/-- The body of REFRESH_REGION (R123): the upgrades (a) to (c) come before the geometry check (d). -/
def State.regionRefresh (s : State) (r : Rect) : State × StatusCode :=
  if s.st.upgradesRegion then (s.fullRefresh, .ok)
  else
    match alignRegion s.cfg r with
    | none => (s, .noopGeometry)
    | some _ => (s.partialRefresh, .ok)

/-- The region of REFRESH with `partial = 1`: the whole panel (R122). -/
def panelRect (c : Cfg) : Rect := ⟨0, 0, panelWidth c, panelHeight c⟩

/-- The body of REFRESH (R122). -/
def State.refreshBody (s : State) (onlyPart : Bool) : State × StatusCode :=
  if onlyPart then s.regionRefresh (panelRect s.cfg) else (s.fullRefresh, .ok)

/-- The body of SET_REFRESH_MODE (R124): modes 0 and 1 are reserved there. -/
def State.setMode (s : State) (mode : RefreshMode) : State × StatusCode :=
  match mode with
  | .forcedFullRefresh => (s.withSt { s.st with refreshMode := .forcedFullRefresh }, .ok)
  | .fastRefresh => (s.withSt { s.st with refreshMode := .fastRefresh }, .ok)
  | .fullRefresh => (s, .noopReserved)
  | .greyRefresh => (s, .noopReserved)

/-- The deep-sleep command and its parameter (R126). -/
def deepSleepEvents : List Event := commandEvents 0x10 [0x01]

/-- The body of HIBERNATE (R126). -/
def State.hibernateBody (s : State) : State × StatusCode :=
  let off := s.powerOff
  if s.cfg.hasResetLine then
    ((off.emit deepSleepEvents).withSt
      { off.st with hibernating := true, displayInitialized := false, grayscaleInitialized := false }, .ok)
  else (off, .hibernateSkipped)

end Sys2Proof.Machine
end

