-- ==== Sys2Proof/Machine/WriteOps.lean ====
section
/-! DEFINITION. The procedures the fill, write and draw operations share (44_write_ops.md R130 to R133): the geometry of an image
operation, WritePlanes, FillPlanes, ClearScreen and the initial-write redirect. -/

namespace Sys2Proof.Machine

/-! ### Planes -/

/-- The master form of a plane's command (30_encoding.md R57). -/
def planeCode : Plane → Byte
  | .current => 0x24
  | .previous => 0x26

/-- The plane command of a target (R131). -/
def planeCommand (plane : Plane) (t : Target) : Event := .cmd (planeCode plane ||| t.bit)

/-- One plane of one sub-rectangle: SetWindow, the plane command, the transfer (R131, R132; 70_reset_and_hazards.md R176). -/
def planeBlock (c : Cfg) (plane : Plane) (sub : SubRect) (bytes : List Byte) : List Event :=
  windowOf c sub ++ planeCommand plane sub.target :: transfer bytes

/-- The bytes of a source view for one plane of one sub-rectangle: mono where `format` is none (R131). -/
def State.planeBytes (s : State) (format : Option GreyFormat) (src : SourceView) (plane : Plane) (sub : SubRect) : List Byte :=
  match format with
  | none => s.monoBytes sub src
  | some f => s.greyBytes f plane sub src

/-- The events of WritePlanes, plane-major (R131). -/
def State.writeEvents (s : State) (planes : List Plane) (format : Option GreyFormat) (clip : Clip) (src : SourceView) :
    List Event :=
  planes.flatMap fun plane =>
    (partition s.cfg clip).flatMap fun sub => planeBlock s.cfg plane sub (s.planeBytes format src plane sub)

/-- WritePlanes (R131). -/
def State.writePlanes (s : State) (planes : List Plane) (format : Option GreyFormat) (clip : Clip) (src : SourceView) : State :=
  s.emit (s.writeEvents planes format clip src)

/-- The events of FillPlanes: the same loop over the whole panel with a constant byte (R132). -/
def fillEvents (c : Cfg) (planes : List Plane) (value : Byte) : List Event :=
  planes.flatMap fun plane =>
    (partition c (wholePanel c)).flatMap fun sub => planeBlock c plane sub (fillBytes sub value)

/-- FillPlanes (R132). -/
def State.fillPlanes (s : State) (planes : List Plane) (value : Byte) : State := s.emit (fillEvents s.cfg planes value)

/-- ClearScreen (R133). -/
def State.clearScreen (s : State) (value : Byte) : State :=
  let cleared := (s.ensureInitPlain.fillPlanes [.previous, .current] value).fullRefresh
  cleared.withSt { cleared.st with initialWritePending := false }

/-- The redirect of the first write to ClearScreen (R130 step 2). -/
def State.redirect (s : State) (value : Byte) : State := if s.st.initialWritePending then s.clearScreen value else s

/-- A fill after its redirect and its initialization (R135, R136). -/
def State.fillBody (s : State) (planes : List Plane) (value : Byte) : State :=
  ((s.redirect value).ensureInitPlain).fillPlanes planes value

/-! ### The geometry of an image operation (R130 step 1) -/

/-- What the geometry of an image operation decides: the clipped rectangle with its trim, the source view, and the rectangle
the refresh step of a draw refreshes. -/
structure WritePlan where
  clip : Clip
  src : SourceView
  region : Rect
deriving DecidableEq, Repr

/-- The geometry of a whole-bitmap operation at `bpp` bits per pixel (R137, R141). -/
def planImage (c : Cfg) (bpp : Int) (b : BitmapArgs) (args : RectArgs) : Except StatusCode WritePlan :=
  let r := rectOf args
  if r.w ≤ 0 ∨ r.h ≤ 0 then .error .noopGeometry
  else
    match clipToPanel c (alignWrite r) with
    | none => .error .noopGeometry
    | some clip =>
      .ok ⟨clip, ⟨spaceOf b.slow, b.base, bpp, cdiv (r.w * bpp) 8, r.h, 0, 0, b.invert, b.mirrorY⟩, r⟩

/-- The geometry of a part operation at `bpp` bits per pixel, its part offset aligned down to `align` pixels: 8 for 1bpp
(R139), the pixels of a source byte for grayscale (R142). -/
def planPart (c : Cfg) (bpp align : Int) (b : BitmapArgs) (p : PartArgs) (args : RectArgs) : Except StatusCode WritePlan :=
  let r := rectOf args
  let xPart := sext16 p.xPart
  let yPart := sext16 p.yPart
  let wBitmap := sext16 p.wBitmap
  let hBitmap := sext16 p.hBitmap
  if wBitmap ≤ 0 ∨ hBitmap ≤ 0 ∨ r.w ≤ 0 ∨ r.h ≤ 0 then .error .noopGeometry
  else if xPart < 0 ∨ wBitmap ≤ xPart then .error .noopGeometry
  else if yPart < 0 ∨ hBitmap ≤ yPart then .error .noopGeometry
  else
    let xp := xPart - xPart % align
    let wl := min r.w (wBitmap - xp)
    let hl := min r.h (hBitmap - yPart)
    let limited : Rect := ⟨r.x, r.y, wl, hl⟩
    match clipToPanel c (alignWrite limited) with
    | none => .error .noopGeometry
    | some clip =>
      .ok ⟨clip, ⟨spaceOf b.slow, b.base, bpp, cdiv (wBitmap * bpp) 8, hBitmap, xp, yPart, b.invert, b.mirrorY⟩, limited⟩

/-! ### The bodies of the image operations -/

/-- The steps 2 to 4 of a 1bpp write whose geometry succeeded (R130, R137 to R140). -/
def State.monoBody (s : State) (planes : List Plane) (plan : WritePlan) : State :=
  ((s.redirect s.cfg.initialFill).ensureInitPlain).writePlanes planes none plan.clip plan.src

/-- The steps 2 to 4 of a grayscale write whose geometry succeeded: the previous plane, then the current plane (R130, R141,
R142). -/
def State.greyBody (s : State) (f : GreyFormat) (plan : WritePlan) : State :=
  ((s.redirect s.cfg.initialFill).ensureInitGrey).writePlanes [.previous, .current] (some f) plan.clip plan.src

/-- A 1bpp write of the given planes (R137 to R140): a geometry error has no side effect (R130). -/
def State.monoWrite (s : State) (planes : List Plane) (plan : Except StatusCode WritePlan) : State × StatusCode :=
  match plan with
  | .error code => (s, code)
  | .ok p => (s.monoBody planes p, .ok)

/-- A grayscale write (R141, R142). -/
def State.greyWrite (s : State) (f : GreyFormat) (plan : Except StatusCode WritePlan) : State × StatusCode :=
  match plan with
  | .error code => (s, code)
  | .ok p => (s.greyBody f p, .ok)

/-- A combined 1bpp draw (R143, R144): write, region refresh, `Again` write. -/
def State.monoDraw (s : State) (plan : Except StatusCode WritePlan) : State × StatusCode :=
  match plan with
  | .error code => (s, code)
  | .ok p => ((((s.monoBody [.current] p).regionRefresh p.region).1).monoBody [.previous, .current] p, .ok)

/-- A combined grayscale draw (R145, R146): write, region refresh. -/
def State.greyDraw (s : State) (f : GreyFormat) (plan : Except StatusCode WritePlan) : State × StatusCode :=
  match plan with
  | .error code => (s, code)
  | .ok p => (((s.greyBody f p).regionRefresh p.region).1, .ok)

/-- The unsupported-bpp check of the four grayscale operations, before any other check (R141, 60_exceptions.md R154, R157). -/
def State.withGreyFormat (s : State) (bpp : Byte) (body : GreyFormat → State × StatusCode) : State × StatusCode :=
  match greyFormat s.cfg bpp with
  | none => (s, .noopBpp)
  | some f => body f

end Sys2Proof.Machine
end

