-- ==== Sys2Proof/Machine/Commands.lean ====
section
/-! DEFINITION. The meanings of the seventeen controller commands (30_encoding.md R57, R58) as instructions of their own: each
drives its command byte and its parameter bytes on the transport, as the DCP does inside an operation, and writes no state
of the DCP (log 10). What a controller does with them is outside the spec (93_implementation_defined.md U15; log 13). -/

namespace Sys2Proof.Machine

/-- CMD_SOFT_START, 0x0C, its parameters from `CFG` (R57). -/
def execCmdSoftStart (parameters : List Byte) (s : State) : Host.Outcome State Fault Refusal :=
  .next (s.drive (commandEvents 0x0C parameters))

/-- CMD_DEEP_SLEEP, 0x10 with the parameter 0x01 (R57, 43_refresh_fsm.md R126). -/
def execCmdDeepSleep (s : State) : Host.Outcome State Fault Refusal :=
  .next (s.drive deepSleepEvents)

/-- CMD_SOFTWARE_RESET, 0x12, no parameter (R57). -/
def execCmdSoftwareReset (s : State) : Host.Outcome State Fault Refusal :=
  .next (s.drive (commandEvents 0x12 []))

/-- CMD_TEMPERATURE_18, 0x18, its parameters from `CFG` (R57). -/
def execCmdTemperature18 (parameters : List Byte) (s : State) : Host.Outcome State Fault Refusal :=
  .next (s.drive (commandEvents 0x18 parameters))

/-- CMD_TEMPERATURE_1A, 0x1A, its parameters from `CFG` (R57). -/
def execCmdTemperature1A (parameters : List Byte) (s : State) : Host.Outcome State Fault Refusal :=
  .next (s.drive (commandEvents 0x1A parameters))

/-- CMD_MASTER_ACTIVATION, 0x20, no parameter (R57, 43_refresh_fsm.md R120). -/
def execCmdMasterActivation (s : State) : Host.Outcome State Fault Refusal :=
  .next (s.drive (commandEvents 0x20 []))

/-- CMD_UPDATE_CONTROL_1, 0x21 with `CFG.UPDCTL1_PART_DATA` (R57, 43_refresh_fsm.md R120). -/
def execCmdUpdateControl1 (s : State) : Host.Outcome State Fault Refusal :=
  .next (s.drive (commandEvents 0x21 s.cfg.updctl1PartData))

/-- CMD_UPDATE_CONTROL_2, 0x22, its parameter 0xFF in UpdatePart and from `CFG` elsewhere (R57). -/
def execCmdUpdateControl2 (parameters : List Byte) (s : State) : Host.Outcome State Fault Refusal :=
  .next (s.drive (commandEvents 0x22 parameters))

/-- CMD_WRITE_CURRENT, 0x24 or 0xA4 (R57, R58, 44_write_ops.md R131). The bulk stream that follows is the operation's. -/
def execCmdWriteCurrent (t : Target) (s : State) : Host.Outcome State Fault Refusal :=
  .next (s.drive [planeCommand .current t])

/-- CMD_WRITE_PREVIOUS, 0x26 or 0xA6 (R57, R58, 44_write_ops.md R131). -/
def execCmdWritePrevious (t : Target) (s : State) : Host.Outcome State Fault Refusal :=
  .next (s.drive [planeCommand .previous t])

/-- CMD_LUT_LOAD, 0x32 with every byte of `CFG.LUT_4G` (R57, R61, 43_refresh_fsm.md R114). -/
def execCmdLutLoad (s : State) : Host.Outcome State Fault Refusal :=
  .next (s.drive (commandEvents 0x32 s.cfg.lut4G))

/-- CMD_BORDER, 0x3C, its parameters `CFG.BORDER_PART_DATA` in UpdatePart and from `CFG` elsewhere (R57). -/
def execCmdBorder (parameters : List Byte) (s : State) : Host.Outcome State Fault Refusal :=
  .next (s.drive (commandEvents 0x3C parameters))

/-- CMD_SET_X_RANGE, 0x44 or 0xC4 (R57, R58, 41_ram_window.md R87). -/
def execCmdSetXRange (t : Target) (first last : Byte) (s : State) : Host.Outcome State Fault Refusal :=
  .next (s.drive (xRangeEvents t first last))

/-- CMD_SET_Y_RANGE, 0x45 or 0xC5, rows low byte first (R57, R58, 41_ram_window.md R88). -/
def execCmdSetYRange (t : Target) (first last : Half) (s : State) : Host.Outcome State Fault Refusal :=
  .next (s.drive (yRangeEvents t (lo8 first.toNat) (hi8 first.toNat) (lo8 last.toNat) (hi8 last.toNat)))

/-- CMD_SET_X_COUNTER, 0x4E or 0xCE (R57, R58, 41_ram_window.md R89). -/
def execCmdSetXCounter (t : Target) (start : Byte) (s : State) : Host.Outcome State Fault Refusal :=
  .next (s.drive (xCounterEvents t start))

/-- CMD_SET_Y_COUNTER, 0x4F or 0xCF, low byte first (R57, R58, 41_ram_window.md R89). -/
def execCmdSetYCounter (t : Target) (start : Half) (s : State) : Host.Outcome State Fault Refusal :=
  .next (s.drive (yCounterEvents t (lo8 start.toNat) (hi8 start.toNat)))

/-- CMD_ENTRY_MODE, `CFG.CMD_ENTRY_MODE` with `CFG.SCAN_BYTE[mode]` (R57, R58, 41_ram_window.md R86). -/
def execCmdEntryMode (t : Target) (scan : ScanMode) (s : State) : Host.Outcome State Fault Refusal :=
  .next (s.drive (entryModeEvents s.cfg t scan))

end Sys2Proof.Machine
end

