-- ==== Sys2Proof/Machine/Control.lean ====
section
/-! DEFINITION. The meanings of the refresh, power and mode operations (43_refresh_fsm.md R122 to R126) and of the reserved
opcodes (30_encoding.md R54). -/

namespace Sys2Proof.Machine

/-- REFRESH (R122). -/
def execRefresh (onlyPart : Bool) (s : State) : Host.Outcome State Fault Refusal :=
  .next (s.operate fun s => s.refreshBody onlyPart)

/-- REFRESH_REGION (R123). -/
def execRefreshRegion (r : RectArgs) (s : State) : Host.Outcome State Fault Refusal :=
  .next (s.operate fun s => s.regionRefresh (rectOf r))

/-- POWER_OFF (R125). -/
def execPowerOff (s : State) : Host.Outcome State Fault Refusal :=
  .next (s.operate fun s => (s.powerOff, .ok))

/-- HIBERNATE (R126). -/
def execHibernate (s : State) : Host.Outcome State Fault Refusal :=
  .next (s.operate fun s => s.hibernateBody)

/-- SET_REFRESH_MODE (R124). -/
def execSetRefreshMode (mode : RefreshMode) (s : State) : Host.Outcome State Fault Refusal :=
  .next (s.operate fun s => s.setMode mode)

/-- A request with a reserved opcode: accepted, and completed at once with no event and no state change (R54). -/
def execReserved (_opcode : Byte) (s : State) : Host.Outcome State Fault Refusal :=
  .next (s.operate fun s => (s, .noopReserved))

end Sys2Proof.Machine
end

