-- ==== Sys2Proof/Machine/Draws.lean ====
section
/-! DEFINITION. The meanings of the combined draw operations (44_write_ops.md R143 to R146). -/

namespace Sys2Proof.Machine

/-- DRAW_IMAGE (R143): WRITE_IMAGE, a region refresh of the operation's own rectangle, WRITE_IMAGE_AGAIN. -/
def execDrawImage (b : BitmapArgs) (r : RectArgs) (s : State) : Host.Outcome State Fault Refusal :=
  .next (s.operate fun s => s.monoDraw (planImage s.cfg 1 b r))

/-- DRAW_IMAGE_PART (R144): the region refreshed is the limited one. -/
def execDrawImagePart (b : BitmapArgs) (p : PartArgs) (r : RectArgs) (s : State) : Host.Outcome State Fault Refusal :=
  .next (s.operate fun s => s.monoDraw (planPart s.cfg 1 8 b p r))

/-- DRAW_IMAGE_4G (R145): no `Again` step. -/
def execDrawImage4G (bpp : Byte) (b : BitmapArgs) (r : RectArgs) (s : State) : Host.Outcome State Fault Refusal :=
  .next (s.operate fun s => s.withGreyFormat bpp fun f => s.greyDraw f (planImage s.cfg f.bpp b r))

/-- DRAW_IMAGE_PART_4G (R146). -/
def execDrawImagePart4G (bpp : Byte) (b : BitmapArgs) (p : PartArgs) (r : RectArgs) (s : State) :
    Host.Outcome State Fault Refusal :=
  .next (s.operate fun s => s.withGreyFormat bpp fun f => s.greyDraw f (planPart s.cfg f.bpp f.ppb b p r))

end Sys2Proof.Machine
end

