-- ==== Sys2Proof/Machine/Fills.lean ====
section
/-! DEFINITION. The meanings of the fill operations (44_write_ops.md R134 to R136). -/

namespace Sys2Proof.Machine

/-- CLEAR_SCREEN (R134). -/
def execClearScreen (value : Byte) (s : State) : Host.Outcome State Fault Refusal :=
  .next (s.operate fun s => (s.clearScreen value, .ok))

/-- WRITE_SCREEN_BUFFER (R135): the current plane only. -/
def execWriteScreenBuffer (value : Byte) (s : State) : Host.Outcome State Fault Refusal :=
  .next (s.operate fun s => (s.fillBody [.current] value, .ok))

/-- WRITE_SCREEN_BUFFER_AGAIN (R136): the previous plane, then the current plane. -/
def execWriteScreenBufferAgain (value : Byte) (s : State) : Host.Outcome State Fault Refusal :=
  .next (s.operate fun s => (s.fillBody [.previous, .current] value, .ok))

end Sys2Proof.Machine
end

