-- ==== Sys2Proof/Machine/Images.lean ====
section
/-! DEFINITION. The meanings of the 1bpp and grayscale image writes (44_write_ops.md R137 to R142). -/

namespace Sys2Proof.Machine

/-- WRITE_IMAGE (R137): the current plane. -/
def execWriteImage (b : BitmapArgs) (r : RectArgs) (s : State) : Host.Outcome State Fault Refusal :=
  .next (s.operate fun s => s.monoWrite [.current] (planImage s.cfg 1 b r))

/-- WRITE_IMAGE_AGAIN (R138): the previous plane, then the current plane. -/
def execWriteImageAgain (b : BitmapArgs) (r : RectArgs) (s : State) : Host.Outcome State Fault Refusal :=
  .next (s.operate fun s => s.monoWrite [.previous, .current] (planImage s.cfg 1 b r))

/-- WRITE_IMAGE_PART (R139): the current plane. -/
def execWriteImagePart (b : BitmapArgs) (p : PartArgs) (r : RectArgs) (s : State) : Host.Outcome State Fault Refusal :=
  .next (s.operate fun s => s.monoWrite [.current] (planPart s.cfg 1 8 b p r))

/-- WRITE_IMAGE_PART_AGAIN (R140): the previous plane, then the current plane. -/
def execWriteImagePartAgain (b : BitmapArgs) (p : PartArgs) (r : RectArgs) (s : State) : Host.Outcome State Fault Refusal :=
  .next (s.operate fun s => s.monoWrite [.previous, .current] (planPart s.cfg 1 8 b p r))

/-- WRITE_IMAGE_4G (R141). -/
def execWriteImage4G (bpp : Byte) (b : BitmapArgs) (r : RectArgs) (s : State) : Host.Outcome State Fault Refusal :=
  .next (s.operate fun s => s.withGreyFormat bpp fun f => s.greyWrite f (planImage s.cfg f.bpp b r))

/-- WRITE_IMAGE_PART_4G (R142): the part offset is aligned down to the pixels of a source byte. -/
def execWriteImagePart4G (bpp : Byte) (b : BitmapArgs) (p : PartArgs) (r : RectArgs) (s : State) :
    Host.Outcome State Fault Refusal :=
  .next (s.operate fun s => s.withGreyFormat bpp fun f => s.greyWrite f (planPart s.cfg f.bpp f.ppb b p r))

end Sys2Proof.Machine
end

