-- ==== Sys2Proof/Machine/Dispatch.lean ====
section
/-! DEFINITION. The meaning of each instruction, one arm per constructor: the eighteen host operations and the reserved opcodes,
then the seventeen controller commands, in the order of spec/opcode_table.json. -/

namespace Sys2Proof.Machine

def exec (i : Instr) (s : State) : Host.Outcome State Fault Refusal :=
  match i with
  | .clearScreen value => Sys2Proof.Machine.execClearScreen value s
  | .writeScreenBuffer value => Sys2Proof.Machine.execWriteScreenBuffer value s
  | .writeScreenBufferAgain value => Sys2Proof.Machine.execWriteScreenBufferAgain value s
  | .writeImage bitmap rect => Sys2Proof.Machine.execWriteImage bitmap rect s
  | .writeImageAgain bitmap rect => Sys2Proof.Machine.execWriteImageAgain bitmap rect s
  | .writeImagePart bitmap part rect => Sys2Proof.Machine.execWriteImagePart bitmap part rect s
  | .writeImagePartAgain bitmap part rect => Sys2Proof.Machine.execWriteImagePartAgain bitmap part rect s
  | .writeImage4G bpp bitmap rect => Sys2Proof.Machine.execWriteImage4G bpp bitmap rect s
  | .writeImagePart4G bpp bitmap part rect => Sys2Proof.Machine.execWriteImagePart4G bpp bitmap part rect s
  | .drawImage bitmap rect => Sys2Proof.Machine.execDrawImage bitmap rect s
  | .drawImagePart bitmap part rect => Sys2Proof.Machine.execDrawImagePart bitmap part rect s
  | .drawImage4G bpp bitmap rect => Sys2Proof.Machine.execDrawImage4G bpp bitmap rect s
  | .drawImagePart4G bpp bitmap part rect => Sys2Proof.Machine.execDrawImagePart4G bpp bitmap part rect s
  | .refresh onlyPart => Sys2Proof.Machine.execRefresh onlyPart s
  | .refreshRegion rect => Sys2Proof.Machine.execRefreshRegion rect s
  | .powerOff => Sys2Proof.Machine.execPowerOff s
  | .hibernate => Sys2Proof.Machine.execHibernate s
  | .setRefreshMode mode => Sys2Proof.Machine.execSetRefreshMode mode s
  | .reserved opcode => Sys2Proof.Machine.execReserved opcode s
  | .cmdSoftStart parameters => Sys2Proof.Machine.execCmdSoftStart parameters s
  | .cmdDeepSleep => Sys2Proof.Machine.execCmdDeepSleep s
  | .cmdSoftwareReset => Sys2Proof.Machine.execCmdSoftwareReset s
  | .cmdTemperature18 parameters => Sys2Proof.Machine.execCmdTemperature18 parameters s
  | .cmdTemperature1A parameters => Sys2Proof.Machine.execCmdTemperature1A parameters s
  | .cmdMasterActivation => Sys2Proof.Machine.execCmdMasterActivation s
  | .cmdUpdateControl1 => Sys2Proof.Machine.execCmdUpdateControl1 s
  | .cmdUpdateControl2 parameters => Sys2Proof.Machine.execCmdUpdateControl2 parameters s
  | .cmdWriteCurrent target => Sys2Proof.Machine.execCmdWriteCurrent target s
  | .cmdWritePrevious target => Sys2Proof.Machine.execCmdWritePrevious target s
  | .cmdLutLoad => Sys2Proof.Machine.execCmdLutLoad s
  | .cmdBorder parameters => Sys2Proof.Machine.execCmdBorder parameters s
  | .cmdSetXRange target first last => Sys2Proof.Machine.execCmdSetXRange target first last s
  | .cmdSetYRange target first last => Sys2Proof.Machine.execCmdSetYRange target first last s
  | .cmdSetXCounter target start => Sys2Proof.Machine.execCmdSetXCounter target start s
  | .cmdSetYCounter target start => Sys2Proof.Machine.execCmdSetYCounter target start s
  | .cmdEntryMode target scan => Sys2Proof.Machine.execCmdEntryMode target scan s

end Sys2Proof.Machine
end

