-- ==== Sys2Proof/Machine/Fetch.lean ====
section
/-! DEFINITION. What the machine finds on its port between two operations: nothing, an action of the environment, or an
instruction to run (60_exceptions.md R163; 10_state.md R19: "There is no fetch: the host presents one request"). -/

namespace Sys2Proof.Machine

/-- What the next step does. -/
inductive Fetched where
  /-- Nothing is presented: the engine stays IDLE (log 9). -/
  | nothing
  /-- The environment acted: a reset, or a byte stored by the host. -/
  | environment (s : State)
  /-- An instruction was accepted in the given state. -/
  | instruction (i : Instr) (s : State)
  /-- The step is refused. -/
  | stop (r : Refusal)

/-- The state without the input served. -/
def State.served (s : State) (rest : List Input) : State := { s with port := rest }

/-- Accept an encoded instruction presented to an IDLE engine under an admissible `CFG` (R163, 00_scope.md R5). -/
def State.intake (s : State) (e : Encoded) : Fetched :=
  if !s.cfg.ok then .stop .badConfiguration
  else
    match decode s.cfg e with
    | .ok i => .instruction i (s.accept e)
    | .error reason => .stop (.undecodable reason)

/-- The next input of the port, served in the order presented (R163). A reset is served whatever the engine does
(70_reset_and_hazards.md R172); the other inputs wait for an IDLE engine, and the model has no state between steps in which
it is not (log 8). -/
def fetch (s : State) : Fetched :=
  match s.port with
  | [] => .nothing
  | input :: rest =>
    match input with
    | .reset => .environment (s.served rest).applyReset
    | .store space address byte =>
      match s.engine with
      | .running => .stop .engineRunning
      | .idle => .environment ((s.served rest).hostStore space address byte)
    | .submit e =>
      match s.engine with
      | .running => .stop .engineRunning
      | .idle => (s.served rest).intake e

/-- Present an encoded instruction ahead of every other input, to an IDLE engine. -/
def State.present (s : State) (e : Encoded) : State := { s with port := .submit e :: s.port, engine := .idle }

end Sys2Proof.Machine
end

