-- ==== Sys2Proof/Machine/Step.lean ====
section
/-! DEFINITION. One step of the machine: one whole operation, one lone command, one action of the environment, or nothing
(92_eei_decisions.md D1: "One host request is one atomic step of the engine"). -/

namespace Sys2Proof.Machine

/-- One step. -/
def step (s : State) : Host.Outcome State Fault Refusal :=
  match fetch s with
  | .nothing => .next s
  | .environment t => .next t
  | .instruction i t => exec i t
  | .stop r => .refused r

/-- The instruction whose bits a row of spec/opcode_table.json gives, presented where the next step takes its request. -/
def State.withFetchWord (s : State) (nbits w : Nat) : State := s.present (tableWord s.cfg nbits w)

end Sys2Proof.Machine
end

