-- ==== Sys2Proof/Machine/Panel.lean ====
section
/-! DEFINITION. The optional sink of 93_implementation_defined.md G7: what two panel controllers would make of an event list, "from general
knowledge, not in source" (PRESUMED, log 13). It is no part of the machine's state (10_state.md R20) and no step reads it; a claim
about display RAM rests on it and says so. -/

namespace Sys2Proof.Machine

/-- One controller (G7): its mode, window, counters, selected plane, and the bytes known of its two planes, keyed by
`cellKey`. A byte no transfer has stored is unknown. -/
structure Controller where
  mode : ScanMode
  xa : Byte
  xb : Byte
  ya : Half
  yb : Half
  cx : Byte
  cy : Half
  selected : Plane
  currentPlane : Memory
  previousPlane : Memory
deriving DecidableEq, Repr

/-- The two controllers behind the one bus, the last command, and how many of its parameters have come. -/
structure Panel where
  master : Controller
  slave : Controller
  last : Byte
  count : Nat
deriving DecidableEq, Repr

/-- The key of a byte of display RAM: byte column and row (20_memory.md R30, R33). -/
def cellKey (col : Byte) (row : Half) : Nat := row.toNat * 256 + col.toNat

/-- A plane of a controller. -/
def Controller.plane (k : Controller) : Plane → Memory
  | .current => k.currentPlane
  | .previous => k.previousPlane

/-- Step the counters (G7): x first; past the window's end it returns to its start and y steps, and likewise y. -/
def Controller.advance (k : Controller) : Controller :=
  if k.cx = k.xb then
    { k with
      cx := k.xa
      cy := if k.cy = k.yb then k.ya else if scanIncY k.mode then k.cy + 1 else k.cy - 1 }
  else { k with cx := if scanIncX k.mode then k.cx + 1 else k.cx - 1 }

/-- Store a byte at the counters in the selected plane, then step (G7). -/
def Controller.store (k : Controller) (d : Byte) : Controller :=
  (match k.selected with
    | .current => { k with currentPlane := Memory.write k.currentPlane (cellKey k.cx k.cy) d }
    | .previous => { k with previousPlane := Memory.write k.previousPlane (cellKey k.cx k.cy) d }).advance

/-- The scan mode an entry-mode byte selects; a byte `CFG.SCAN_BYTE` does not hold changes nothing. -/
def scanModeOf (c : Cfg) (b : Byte) (old : ScanMode) : ScanMode :=
  if b = scanByte c .xIncYInc then .xIncYInc
  else if b = scanByte c .xDecYInc then .xDecYInc
  else if b = scanByte c .xIncYDec then .xIncYDec
  else if b = scanByte c .xDecYDec then .xDecYDec
  else old

/-- Put a low or a high byte into a row (R35). -/
def withLow (v : Half) (d : Byte) : Half := v.extractLsb' 8 8 ++ d

/-- Put a high byte into a row (R35). -/
def withHigh (v : Half) (d : Byte) : Half := d ++ v.extractLsb' 0 8

/-- Parameter number `n` of the command whose master form is `code` (G7). -/
def Controller.parameter (c : Cfg) (code : Byte) (n : Nat) (d : Byte) (k : Controller) : Controller :=
  match code.toNat, n with
  | 0x24, _ => k.store d
  | 0x26, _ => k.store d
  | 0x44, 0 => { k with xa := d }
  | 0x44, 1 => { k with xb := d }
  | 0x45, 0 => { k with ya := withLow k.ya d }
  | 0x45, 1 => { k with ya := withHigh k.ya d }
  | 0x45, 2 => { k with yb := withLow k.yb d }
  | 0x45, 3 => { k with yb := withHigh k.yb d }
  | 0x4E, 0 => { k with cx := d }
  | 0x4F, 0 => { k with cy := withLow k.cy d }
  | 0x4F, 1 => { k with cy := withHigh k.cy d }
  | _, 0 => if code = c.cmdEntryMode then { k with mode := scanModeOf c d k.mode } else k
  | _, _ => k

/-- Does the master form of a command code select a plane? -/
def planeOfCode (code : Byte) : Option Plane :=
  if code = 0x24 then some .current else if code = 0x26 then some .previous else none

/-- The controller a target names. -/
def Panel.controller (p : Panel) : Target → Controller
  | .master => p.master
  | .slave => p.slave

/-- Change the controller a target names. -/
def Panel.modify (p : Panel) (t : Target) (f : Controller → Controller) : Panel :=
  match t with
  | .master => { p with master := f p.master }
  | .slave => { p with slave := f p.slave }

/-- One event (G7). `Data` and `Bulk` belong to the last `Cmd` (30_encoding.md R58). -/
def Panel.take (c : Cfg) (p : Panel) : Event → Panel
  | .cmd code =>
    let p' : Panel := { p with last := code, count := 0 }
    match planeOfCode (code &&& 0x7F) with
    | some plane => p'.modify (Target.ofCode code) fun k => { k with selected := plane }
    | none => p'
  | .data d =>
    ({ p with count := p.count + 1 } : Panel).modify (Target.ofCode p.last)
      (Controller.parameter c (p.last &&& 0x7F) p.count d)
  | .bulk d =>
    match planeOfCode (p.last &&& 0x7F) with
    | some _ => p.modify (Target.ofCode p.last) fun k => k.store d
    | none => p
  | .startTransfer => p
  | .endTransfer => p
  | .wait _ => p
  | .resetLine => p
  | .delay _ => p

/-- A list of events, in order (20_memory.md R40). -/
def Panel.run (c : Cfg) : Panel → List Event → Panel
  | p, [] => p
  | p, e :: rest => Panel.run c (p.take c e) rest

/-- The byte known at a byte column and a row of a plane of a controller. -/
def Panel.read? (p : Panel) (t : Target) (plane : Plane) (col : Byte) (row : Half) : Option Byte :=
  Memory.read? ((p.controller t).plane plane) (cellKey col row)

/-- The commands whose parameters the sink stores or takes into a window: the window and plane commands and CMD_ENTRY_MODE. -/
def sinkCode (c : Cfg) (code : Byte) : Bool :=
  [0x24, 0x26, 0x44, 0x45, 0x4E, 0x4F, c.cmdEntryMode].contains (code &&& 0x7F)

/-- An item of a `CFG` sequence that the sink ignores. -/
def SeqItem.quiet (c : Cfg) : SeqItem → Bool
  | .command code _ => !sinkCode c code
  | .lut code => !sinkCode c code
  | .busyWait _ => true
  | .pause _ => true

/-- A configuration under which the sink is meaningful: CMD_ENTRY_MODE is no other command's code, the four scan bytes differ,
and no `CFG` sequence sends a window or plane command. -/
def sinkCfg (c : Cfg) : Bool :=
  c.entryModeFree
    && decide ([scanByte c .xIncYInc, scanByte c .xDecYInc, scanByte c .xIncYDec, scanByte c .xDecYDec].Nodup)
    && (c.seqInitPlain ++ c.seqInitGrey ++ c.seqPowerOn ++ c.seqPowerOff ++ c.seqUpdateFullSlow ++ c.seqUpdateFullFast
        ++ c.seqUpdateGrey).all (SeqItem.quiet c)

end Sys2Proof.Machine
end

