-- ==== Sys2Proof/Machine/Traces.lean ====
section
/-! DEFINITION. The event lists of the sequences and procedures in closed form, as functions of `CFG` and of the flags alone
(00_scope.md R3: "The emitted event list never depends on a busy-wait answer"). No step calls them: statements compare what an
operation emits with them. -/

namespace Sys2Proof.Machine

/-! ### Busy-waits (43_refresh_fsm.md R112) -/

/-- Is the event a busy-wait? -/
def isWait : Event → Bool
  | .wait _ => true
  | .cmd _ => false
  | .data _ => false
  | .startTransfer => false
  | .bulk _ => false
  | .endTransfer => false
  | .resetLine => false
  | .delay _ => false

/-- The number of busy-waits in an event list. -/
def waitCount (es : List Event) : Nat := es.countP isWait

/-- The transport's answer to busy-wait number `k` from now on, `true` for `timed_out`: the scripted answers first, then the
free draws (log 5). -/
def State.answerAt (s : State) (k : Nat) : Bool :=
  match s.busyInputs[k]? with
  | some .ready => false
  | some .timedOut => true
  | none => Config.freeBusyTimesOut (s.draws + (k - s.busyInputs.length))

/-- Is one of the next `n` busy-waits answered `timed_out`? -/
def State.timesOut (s : State) (n : Nat) : Bool := (List.range n).any s.answerAt

/-! ### Event lists and end states -/

/-- The events of one item of a `CFG` sequence (30_encoding.md R61). -/
def itemEvents (c : Cfg) : SeqItem → List Event
  | .command code parameters => .cmd code :: parameters.map .data
  | .lut code => .cmd code :: c.lut4G.map .data
  | .busyWait ms => [.wait ms]
  | .pause ms => [.delay ms]

/-- The events of a `CFG` sequence (43_refresh_fsm.md R111). -/
def seqEvents (c : Cfg) (items : List SeqItem) : List Event := items.flatMap (itemEvents c)

/-- The wake events of an initialization (R113, R114). -/
def wakeEvents (c : Cfg) (hibernating : Bool) : List Event := if hibernating then [.resetLine, .delay c.resetMs] else []

/-- The events of InitPlain (R113). -/
def initPlainEvents (c : Cfg) (hibernating : Bool) : List Event := wakeEvents c hibernating ++ seqEvents c c.seqInitPlain

/-- The events of InitGrey (R114). -/
def initGreyEvents (c : Cfg) (hibernating : Bool) : List Event := wakeEvents c hibernating ++ seqEvents c c.seqInitGrey

/-- The events of PowerOn from a panel without power (R116). -/
def powerOnEvents (c : Cfg) : List Event := seqEvents c c.seqPowerOn ++ [.wait c.powerOnMs]

/-- The events of UpdateFull (R118). -/
def updateFullEvents (c : Cfg) : List Event :=
  powerOnEvents c ++ seqEvents c (if c.fastFullUpdate then c.seqUpdateFullFast else c.seqUpdateFullSlow) ++ [.wait c.fullMs]

/-- The events of UpdateGrey (R119). -/
def updateGreyEvents (c : Cfg) : List Event := powerOnEvents c ++ seqEvents c c.seqUpdateGrey ++ [.wait c.greyMs]

/-- The events of UpdatePart (R120). -/
def updatePartEvents (c : Cfg) : List Event :=
  .cmd 0x3C :: c.borderPartData.map .data ++ (.cmd 0x21 :: c.updctl1PartData.map .data)
    ++ [.cmd 0x22, .data 0xFF, .cmd 0x20, .wait c.partialMs]

/-- Does a full refresh initialize first (R121, R128)? -/
def refreshInitializes (st : DcpState) : Bool :=
  (!st.displayInitialized && !st.grayscaleInitialized) || st.refreshMode == .forcedFullRefresh || st.refreshMode == .fastRefresh

/-- The events of FullRefresh from a boundary state (R121, R128). -/
def fullRefreshEvents (c : Cfg) (st : DcpState) : List Event :=
  if refreshInitializes st then initPlainEvents c st.hibernating ++ updateFullEvents c
  else if st.refreshMode = .greyRefresh then updateGreyEvents c
  else updateFullEvents c

/-- The state after FullRefresh from a boundary state (R121, R128). -/
def afterFullRefresh (st : DcpState) : DcpState :=
  if refreshInitializes st then
    { st with
      refreshMode := .fullRefresh
      displayInitialized := true
      grayscaleInitialized := false
      hibernating := false
      initialRefreshPending := false }
  else { st with initialRefreshPending := false }

/-- The state after a plain initialization (R113). -/
def afterInitPlain (st : DcpState) : DcpState :=
  { st with refreshMode := .fullRefresh, displayInitialized := true, grayscaleInitialized := false, hibernating := false }

/-- The state after a grayscale initialization (R114). -/
def afterInitGrey (st : DcpState) : DcpState :=
  { st with refreshMode := .greyRefresh, displayInitialized := false, grayscaleInitialized := true, hibernating := false }

/-- The events of EnsureInitPlain (R115). -/
def ensurePlainEvents (c : Cfg) (st : DcpState) : List Event :=
  if st.displayInitialized then [] else initPlainEvents c st.hibernating

/-- The state after EnsureInitPlain (R115). -/
def afterEnsurePlain (st : DcpState) : DcpState := if st.displayInitialized then st else afterInitPlain st

/-- The events of EnsureInitGrey (R115). -/
def ensureGreyEvents (c : Cfg) (st : DcpState) : List Event :=
  if st.grayscaleInitialized then [] else initGreyEvents c st.hibernating

/-- The state after EnsureInitGrey (R115). -/
def afterEnsureGrey (st : DcpState) : DcpState := if st.grayscaleInitialized then st else afterInitGrey st

/-- The events of ClearScreen (44_write_ops.md R133). -/
def clearEvents (c : Cfg) (st : DcpState) (value : Byte) : List Event :=
  ensurePlainEvents c st ++ fillEvents c [.previous, .current] value ++ fullRefreshEvents c (afterEnsurePlain st)

/-- The state after ClearScreen (R133). -/
def afterClear (st : DcpState) : DcpState :=
  { afterFullRefresh (afterEnsurePlain st) with initialWritePending := false }

/-- The events of the initial-write redirect (R130 step 2). -/
def redirectEvents (c : Cfg) (st : DcpState) (value : Byte) : List Event :=
  if st.initialWritePending then clearEvents c st value else []

/-- The state after the initial-write redirect (R130 step 2). -/
def afterRedirect (st : DcpState) : DcpState := if st.initialWritePending then afterClear st else st

/-- The events of a region refresh whose region is not empty (R123, R128). -/
def regionRefreshEvents (c : Cfg) (st : DcpState) : List Event :=
  if st.initialRefreshPending || st.refreshMode == .forcedFullRefresh || st.refreshMode == .greyRefresh then
    fullRefreshEvents c st
  else (if refreshInitializes st then initPlainEvents c st.hibernating else []) ++ updatePartEvents c

/-- The state after a region refresh whose region is not empty (R123, R128). -/
def afterRegionRefresh (st : DcpState) : DcpState :=
  if st.initialRefreshPending || st.refreshMode == .forcedFullRefresh || st.refreshMode == .greyRefresh then
    afterFullRefresh st
  else if refreshInitializes st then afterInitPlain st
  else st

end Sys2Proof.Machine
end

