-- ==== Sys2Proof/Safety.lean ====
section
/-! DEFINITION. What counts as a safe run, in the terms the statements use: the state at an operation boundary (10_state.md R21),
the discipline of the event list (70_reset_and_hazards.md R175, R176), what an operation leaves unchanged, and how it
completes (60_exceptions.md R158). -/

namespace Sys2Proof.Safety

open Sys2Proof.Machine

/-- A state at an operation boundary: an IDLE engine, the flags' lattice (R21), the status bits 6:4 zero (30_encoding.md R62), and
both source memories in canonical form. -/
def atBoundary (s : State) : Bool :=
  s.engine == .idle && s.st.lattice s.cfg && (s.status &&& 0x70) == 0 && Memory.wf s.srcFast && Memory.wf s.srcSlow

/-- An event that is neither part of a bulk transfer nor its bracket. -/
def controlEvent : Event → Bool
  | .startTransfer => false
  | .bulk _ => false
  | .endTransfer => false
  | .cmd _ => true
  | .data _ => true
  | .wait _ => true
  | .resetLine => true
  | .delay _ => true

/-- R176: the list is made of control events and of blocks, each block one complete SetWindow, one plane command for the same
target and one transfer of exactly the window's size in bytes, with nothing between; the window lies in the controller's RAM
(R78). -/
inductive Disciplined (c : Cfg) : List Event → Prop where
  | nil : Disciplined c []
  | control (e : Event) (rest : List Event) : controlEvent e = true → Disciplined c rest → Disciplined c (e :: rest)
  | block (t : Target) (m : ScanMode) (plane : Plane) (lx ly w h : Int) (bytes : List Byte) (rest : List Event) :
      0 ≤ lx → lx % 8 = 0 → 0 < w → w % 8 = 0 → lx + w ≤ controllerWidth c →
      0 ≤ ly → 0 < h → ly + h ≤ controllerHeight c →
      (bytes.length : Int) = w / 8 * h →
      Disciplined c rest →
      Disciplined c (setWindow c t m lx ly w h ++ planeCommand plane t :: transfer bytes ++ rest)

/-- What no operation writes: `CFG` (00_scope.md R4), every byte of both source spaces (20_memory.md R30), the latch while it runs
(10_state.md R18), and the inputs waiting. -/
structure SameEnvironment (s t : State) : Prop where
  cfg : t.cfg = s.cfg
  memory : ∀ space address, Memory.read? (t.memory space) address = Memory.read? (s.memory space) address
  latch : t.latch = s.latch
  port : t.port = s.port

/-- An operation has completed with a code: the engine is IDLE, the status is presented with `done`, its bits 3:0 are the code and
its bits 6:4 are zero (R62, R158, R19). -/
structure Completed (t : State) (code : StatusCode) : Prop where
  idle : t.engine = .idle
  done : t.done = true
  code : t.status &&& 0x7F = code.toByte

/-- An operation that did nothing but present its status: no event, no state change, no busy-wait. -/
structure DidNothing (s t : State) (code : StatusCode) : Prop where
  st : t.st = s.st
  events : t.events = []
  status : t.status = code.toByte
  idle : t.engine = .idle
  done : t.done = true
  answers : t.busyInputs = s.busyInputs ∧ t.draws = s.draws
  environment : SameEnvironment s t

/-- An operation that has completed with a code, the seven fields `st` and the events `es`, and that wrote nothing else. -/
structure Result (s t : State) (code : StatusCode) (st : DcpState) (es : List Event) : Prop where
  st : t.st = st
  events : t.events = es
  completed : Completed t code
  environment : SameEnvironment s t

/-- An instruction completes, and does nothing but present `code` exactly when `refuses` holds. -/
def RefusesExactly (s : State) (i : Instr) (code : StatusCode) (refuses : Prop) : Prop :=
  ∃ t, exec i s = .next t ∧ (refuses → DidNothing s t code) ∧ (¬refuses → t.status &&& 0x0F ≠ code.toByte)

/-- Two states that differ at most in the transport's answers to come. -/
structure SameButAnswers (s t : State) : Prop where
  st : t.st = s.st
  engine : t.engine = s.engine
  latch : t.latch = s.latch
  done : t.done = s.done
  events : t.events = s.events
  cfg : t.cfg = s.cfg
  srcFast : t.srcFast = s.srcFast
  srcSlow : t.srcSlow = s.srcSlow
  port : t.port = s.port
  epoch : t.epoch = s.epoch

/-- The host operations and the reserved opcodes: the instructions that are requests. -/
def isRequest : Instr → Bool
  | .clearScreen _ => true
  | .writeScreenBuffer _ => true
  | .writeScreenBufferAgain _ => true
  | .writeImage _ _ => true
  | .writeImageAgain _ _ => true
  | .writeImagePart _ _ _ => true
  | .writeImagePartAgain _ _ _ => true
  | .writeImage4G _ _ _ => true
  | .writeImagePart4G _ _ _ _ => true
  | .drawImage _ _ => true
  | .drawImagePart _ _ _ => true
  | .drawImage4G _ _ _ => true
  | .drawImagePart4G _ _ _ _ => true
  | .refresh _ => true
  | .refreshRegion _ => true
  | .powerOff => true
  | .hibernate => true
  | .setRefreshMode _ => true
  | .reserved _ => true
  | .cmdSoftStart _ => false
  | .cmdDeepSleep => false
  | .cmdSoftwareReset => false
  | .cmdTemperature18 _ => false
  | .cmdTemperature1A _ => false
  | .cmdMasterActivation => false
  | .cmdUpdateControl1 => false
  | .cmdUpdateControl2 _ => false
  | .cmdWriteCurrent _ => false
  | .cmdWritePrevious _ => false
  | .cmdLutLoad => false
  | .cmdBorder _ => false
  | .cmdSetXRange _ _ _ => false
  | .cmdSetYRange _ _ _ => false
  | .cmdSetXCounter _ _ => false
  | .cmdSetYCounter _ _ => false
  | .cmdEntryMode _ _ => false

/-- The grayscale operations, the only ones that run InitGrey (43_refresh_fsm.md R115). -/
def isGrey : Instr → Bool
  | .clearScreen _ => false
  | .writeScreenBuffer _ => false
  | .writeScreenBufferAgain _ => false
  | .writeImage _ _ => false
  | .writeImageAgain _ _ => false
  | .writeImagePart _ _ _ => false
  | .writeImagePartAgain _ _ _ => false
  | .writeImage4G _ _ _ => true
  | .writeImagePart4G _ _ _ _ => true
  | .drawImage _ _ => false
  | .drawImagePart _ _ _ => false
  | .drawImage4G _ _ _ => true
  | .drawImagePart4G _ _ _ _ => true
  | .refresh _ => false
  | .refreshRegion _ => false
  | .powerOff => false
  | .hibernate => false
  | .setRefreshMode _ => false
  | .reserved _ => false
  | .cmdSoftStart _ => false
  | .cmdDeepSleep => false
  | .cmdSoftwareReset => false
  | .cmdTemperature18 _ => false
  | .cmdTemperature1A _ => false
  | .cmdMasterActivation => false
  | .cmdUpdateControl1 => false
  | .cmdUpdateControl2 _ => false
  | .cmdWriteCurrent _ => false
  | .cmdWritePrevious _ => false
  | .cmdLutLoad => false
  | .cmdBorder _ => false
  | .cmdSetXRange _ _ _ => false
  | .cmdSetYRange _ _ _ => false
  | .cmdSetXCounter _ _ => false
  | .cmdSetYCounter _ _ => false
  | .cmdEntryMode _ _ => false

/-- Every input waiting is a request, a reset or a store of the host: no lone command. -/
def onlyHostInputs (s : State) : Bool :=
  s.port.all fun input =>
    match input with
    | .submit (.request _) => true
    | .submit (.command _) => false
    | .reset => true
    | .store _ _ _ => true

/-! ### Descriptor fields -/

/-- The bits of the descriptor that a request with the given opcode reads (30_encoding.md R50, R51, fourth column). -/
def readMask (opcode : Byte) : Descriptor :=
  match opcode.toNat with
  | 0x01 => ⟨0x00FF00FF, 0, 0, 0, 0, 0⟩
  | 0x02 => ⟨0x00FF00FF, 0, 0, 0, 0, 0⟩
  | 0x03 => ⟨0x00FF00FF, 0, 0, 0, 0, 0⟩
  | 0x04 => ⟨0x000007FF, 0xFFFFFFFF, 0xFFFFFFFF, 0xFFFFFFFF, 0, 0⟩
  | 0x05 => ⟨0x000007FF, 0xFFFFFFFF, 0xFFFFFFFF, 0xFFFFFFFF, 0, 0⟩
  | 0x06 => ⟨0x000007FF, 0xFFFFFFFF, 0xFFFFFFFF, 0xFFFFFFFF, 0xFFFFFFFF, 0xFFFFFFFF⟩
  | 0x07 => ⟨0x000007FF, 0xFFFFFFFF, 0xFFFFFFFF, 0xFFFFFFFF, 0xFFFFFFFF, 0xFFFFFFFF⟩
  | 0x08 => ⟨0xFF0007FF, 0xFFFFFFFF, 0xFFFFFFFF, 0xFFFFFFFF, 0, 0⟩
  | 0x09 => ⟨0xFF0007FF, 0xFFFFFFFF, 0xFFFFFFFF, 0xFFFFFFFF, 0xFFFFFFFF, 0xFFFFFFFF⟩
  | 0x0A => ⟨0x000007FF, 0xFFFFFFFF, 0xFFFFFFFF, 0xFFFFFFFF, 0, 0⟩
  | 0x0B => ⟨0x000007FF, 0xFFFFFFFF, 0xFFFFFFFF, 0xFFFFFFFF, 0xFFFFFFFF, 0xFFFFFFFF⟩
  | 0x0C => ⟨0xFF0007FF, 0xFFFFFFFF, 0xFFFFFFFF, 0xFFFFFFFF, 0, 0⟩
  | 0x0D => ⟨0xFF0007FF, 0xFFFFFFFF, 0xFFFFFFFF, 0xFFFFFFFF, 0xFFFFFFFF, 0xFFFFFFFF⟩
  | 0x0E => ⟨0x000008FF, 0, 0, 0, 0, 0⟩
  | 0x0F => ⟨0x000000FF, 0, 0xFFFFFFFF, 0xFFFFFFFF, 0, 0⟩
  | 0x12 => ⟨0x000030FF, 0, 0, 0, 0, 0⟩
  | _ => ⟨0x000000FF, 0, 0, 0, 0, 0⟩

/-- Two descriptors agree in every bit of a mask. -/
def agreeUnder (m d d' : Descriptor) : Prop :=
  d.w0 &&& m.w0 = d'.w0 &&& m.w0 ∧ d.w1 &&& m.w1 = d'.w1 &&& m.w1 ∧ d.w2 &&& m.w2 = d'.w2 &&& m.w2 ∧
  d.w3 &&& m.w3 = d'.w3 &&& m.w3 ∧ d.w4 &&& m.w4 = d'.w4 &&& m.w4 ∧ d.w5 &&& m.w5 = d'.w5 &&& m.w5

/-! ### Geometry -/

/-- A rectangle of positive extent, aligned as a write aligns it, has no pixel on the panel (40_partitioner.md R70, R71). -/
def offPanel (c : Cfg) (x y w h : Int) : Prop :=
  8 * (x / 8) + 8 * ((w + 7) / 8) ≤ 0 ∨ panelWidth c ≤ 8 * (x / 8) ∨ y + h ≤ 0 ∨ panelHeight c ≤ y

/-- The geometry errors of the whole-bitmap operations (60_exceptions.md R151, first row). -/
def imageRefused (c : Cfg) (r : RectArgs) : Prop :=
  r.w.toInt ≤ 0 ∨ r.h.toInt ≤ 0 ∨ offPanel c r.x.toInt r.y.toInt r.w.toInt r.h.toInt

/-- The geometry errors of the part operations, the part offset aligned down to `align` pixels (R151, second row). -/
def partRefused (c : Cfg) (align : Int) (p : PartArgs) (r : RectArgs) : Prop :=
  p.wBitmap.toInt ≤ 0 ∨ p.hBitmap.toInt ≤ 0 ∨ r.w.toInt ≤ 0 ∨ r.h.toInt ≤ 0 ∨
  p.xPart.toInt < 0 ∨ p.wBitmap.toInt ≤ p.xPart.toInt ∨ p.yPart.toInt < 0 ∨ p.hBitmap.toInt ≤ p.yPart.toInt ∨
  offPanel c r.x.toInt r.y.toInt (min r.w.toInt (p.wBitmap.toInt - (p.xPart.toInt - p.xPart.toInt % align)))
    (min r.h.toInt (p.hBitmap.toInt - p.yPart.toInt))

/-- The geometry errors of REFRESH_REGION (R151, fourth row; 40_partitioner.md R72). -/
def regionRefused (c : Cfg) (r : RectArgs) : Prop :=
  r.w.toInt ≤ 0 ∨ r.h.toInt ≤ 0 ∨ r.x.toInt + r.w.toInt ≤ 0 ∨ panelWidth c ≤ r.x.toInt ∨
  r.y.toInt + r.h.toInt ≤ 0 ∨ panelHeight c ≤ r.y.toInt

/-- A global pixel lies in a rectangle (92_eei_decisions.md D5). -/
def inRect (r : Rect) (gx gy : Int) : Prop := r.x ≤ gx ∧ gx < r.x + r.w ∧ r.y ≤ gy ∧ gy < r.y + r.h

/-- The controller that a global pixel belongs to (20_memory.md R39). -/
def pixelTarget (c : Cfg) (gx : Int) : Target := if gx < panelWidth c / 2 then .slave else .master

/-- The local coordinates of a global pixel (40_partitioner.md R75). -/
def pixelLocal (c : Cfg) (gx gy : Int) : Int × Int :=
  match pixelTarget c gx with
  | .slave => (gx, gy)
  | .master => (panelWidth c - 1 - gx, panelHeight c - 1 - gy)

/-- A sub-rectangle covers a global pixel: same controller, and the pixel's local coordinates lie in it. -/
def covers (c : Cfg) (gx gy : Int) (sub : SubRect) : Bool :=
  sub.target == pixelTarget c gx
    && decide (sub.lx ≤ (pixelLocal c gx gy).1) && decide ((pixelLocal c gx gy).1 < sub.lx + sub.w)
    && decide (sub.ly ≤ (pixelLocal c gx gy).2) && decide ((pixelLocal c gx gy).2 < sub.ly + sub.h)

/-- A rectangle as Partition takes it: clipped to the panel and byte-aligned (R74). -/
def clippedAligned (c : Cfg) (r : Rect) : Prop :=
  0 ≤ r.x ∧ r.x + r.w ≤ panelWidth c ∧ 0 ≤ r.y ∧ r.y + r.h ≤ panelHeight c ∧ 0 < r.w ∧ 0 < r.h ∧ r.x % 8 = 0 ∧ r.w % 8 = 0

/-- A clipped rectangle with a trim as the writes hand it to Partition (R71, R74). -/
def trimmed (c : Cfg) (clip : Clip) : Prop :=
  clippedAligned c clip.rect ∧ 0 ≤ clip.dx ∧ clip.dx % 8 = 0 ∧ 0 ≤ clip.dy

/-- The geometry of a whole-bitmap operation at `bpp` bits per pixel, as R137 and R141 write it: the bitmap `w` by `h` at
`(x, y)`, aligned and clipped to `clip`, and its source view (42_pixel_packer.md R95). -/
structure ImagePlaced (c : Cfg) (bpp : Int) (b : BitmapArgs) (r : RectArgs) (clip : Clip) (src : SourceView) : Prop where
  width : 0 < r.w.toInt
  height : 0 < r.h.toInt
  clipped : clipToPanel c (alignWrite ⟨r.x.toInt, r.y.toInt, r.w.toInt, r.h.toInt⟩) = some clip
  space : src.space = (if b.slow = true then .slow else .fast)
  base : src.base = b.base
  depth : src.bpp = bpp
  stride : src.stride = (r.w.toInt * bpp + 7) / 8
  hsrc : src.hsrc = r.h.toInt
  xoff : src.xoff = 0
  yoff : src.yoff = 0
  invert : src.invert = b.invert
  mirrorY : src.mirrorY = b.mirrorY

/-- The geometry of a part operation at `bpp` bits per pixel, as R139 and R142 write it: the part offset aligned down to
`align` pixels, the part limited to `wl` by `hl` pixels, aligned and clipped to `clip`, and the view of the whole bitmap. -/
structure PartPlaced (c : Cfg) (bpp align : Int) (b : BitmapArgs) (p : PartArgs) (r : RectArgs) (wl hl : Int) (clip : Clip)
    (src : SourceView) : Prop where
  bitmap : 0 < p.wBitmap.toInt ∧ 0 < p.hBitmap.toInt
  extent : 0 < r.w.toInt ∧ 0 < r.h.toInt
  column : 0 ≤ p.xPart.toInt ∧ p.xPart.toInt < p.wBitmap.toInt
  row : 0 ≤ p.yPart.toInt ∧ p.yPart.toInt < p.hBitmap.toInt
  limitedWidth : wl = min r.w.toInt (p.wBitmap.toInt - (p.xPart.toInt - p.xPart.toInt % align))
  limitedHeight : hl = min r.h.toInt (p.hBitmap.toInt - p.yPart.toInt)
  clipped : clipToPanel c (alignWrite ⟨r.x.toInt, r.y.toInt, wl, hl⟩) = some clip
  space : src.space = (if b.slow = true then .slow else .fast)
  base : src.base = b.base
  depth : src.bpp = bpp
  stride : src.stride = (p.wBitmap.toInt * bpp + 7) / 8
  hsrc : src.hsrc = p.hBitmap.toInt
  xoff : src.xoff = p.xPart.toInt - p.xPart.toInt % align
  yoff : src.yoff = p.yPart.toInt
  invert : src.invert = b.invert
  mirrorY : src.mirrorY = b.mirrorY

/-! ### Planes -/

/-- The plane command's code with the target bit, as the loop of R131 writes it: 0x24 or 0x26 for MASTER, 0xA4 or 0xA6 for
SLAVE. -/
def planeByte : Plane → Target → Byte
  | .current, .master => 0x24
  | .current, .slave => 0xA4
  | .previous, .master => 0x26
  | .previous, .slave => 0xA6

/-- One pass of the loop of R131 and R132: for every sub-rectangle in the order of Partition, SetWindow, the plane command,
`Start`, one `Bulk` for each byte, `End`. -/
def planeSent (c : Cfg) (clip : Clip) (plane : Plane) (bytes : SubRect → List Byte) : List Event :=
  (partition c clip).flatMap fun sub =>
    setWindow c sub.target sub.scan sub.lx sub.ly sub.w sub.h ++ [.cmd (planeByte plane sub.target), .startTransfer]
      ++ (bytes sub).map .bulk ++ [.endTransfer]

/-! ### Updates -/

/-- The three update sequences (43_refresh_fsm.md R118 to R120). -/
inductive UpdateKind where
  | full
  | grey
  | part
deriving DecidableEq, Repr

/-- The events of an update sequence. -/
def updateEvents (c : Cfg) : UpdateKind → List Event
  | .full => updateFullEvents c
  | .grey => updateGreyEvents c
  | .part => updatePartEvents c

/-- An entry of the table of R128: the instruction runs InitPlain first or not, then the given update; after InitPlain the mode
is `full_refresh`, else it is unchanged; and no initial refresh is pending after any update but the partial one. -/
def RunsUpdate (s : State) (i : Instr) (init : Bool) (kind : UpdateKind) : Prop :=
  ∃ t, exec i s = .next t ∧
    t.events = (if init then initPlainEvents s.cfg s.st.hibernating else []) ++ updateEvents s.cfg kind ∧
    t.st.refreshMode = (if init then .fullRefresh else s.st.refreshMode) ∧
    (kind ≠ .part → t.st.initialRefreshPending = false)

end Sys2Proof.Safety
end

