-- ==== Sys2Proof/Certificates/Slice0/Obligations.lean ====
section
/-! DEFINITION. The statements for the provers, from the numbered rules of spec/ file by file: the encodings and the step, reset and
the invariants, the status, the no-ops, the control, refresh, fill, write and draw operations, the controller commands, the
partitioner, the window, the packer, and the optional sink. -/

open Sys2Proof Sys2Proof.Machine Sys2Proof.Safety

/-- O1. Decode and encode agree on all 36 constructors, every operand at every value (30_encoding.md R50, R51, R57,
R58). The encoder's zeros in unread fields, and the operand bytes of a lone command, are the model's own (DESIGN
CHOICE, log 10). -/
def Obligations.DecodeOfEncode : Prop :=
  ∀ (c : Cfg) (i : Instr), i.wf c = true → decode c (encode c i) = .ok i

/-- O2. A field an operation does not read is ignored, and so are the reserved bits (R51, R52, R55). -/
def Obligations.UnreadFieldsIgnored : Prop :=
  ∀ d d' : Descriptor, agreeUnder (readMask (field d.w0 0 8)) d d' → decodeRequest d = decodeRequest d'

/-- O3. Sanity of the decoder on words written from R50, R51, R57, R58 and 95_test_vectors.md. The operand bytes of
the lone commands are the model's own layout (log 10). -/
def Obligations.WrittenWordsDecode : Prop :=
  decodeRequest ⟨0x00FF0001, 0, 0, 0, 0, 0⟩ = .clearScreen 0xFF ∧
  decodeRequest ⟨0x00000204, 0x00001000, 0, 0x00030010, 0, 0⟩ = .writeImage ⟨0x1000, false, true, false⟩ ⟨0, 0, 16, 3⟩ ∧
  decodeRequest ⟨0x04000009, 0x00001000, 0x00000020, 0x00020008, 0x00000003, 0x00020010⟩
    = .writeImagePart4G 4 ⟨0x1000, false, false, false⟩ ⟨3, 0, 16, 2⟩ ⟨32, 0, 8, 2⟩ ∧
  decodeRequest ⟨0x0000080E, 0, 0, 0, 0, 0⟩ = .refresh true ∧
  decodeRequest ⟨0x0000000F, 0, 0xFFFE0003, 0x00100010, 0, 0⟩ = .refreshRegion ⟨3, 0xFFFE, 16, 16⟩ ∧
  decodeRequest ⟨0x00003012, 0, 0, 0, 0, 0⟩ = .setRefreshMode .forcedFullRefresh ∧
  decodeRequest ⟨0x00000013, 0, 0, 0, 0, 0⟩ = .reserved 0x13 ∧
  decode Config.cfgT (.command [0xC5, 0x10, 0x00, 0x1F, 0x00]) = .ok (.cmdSetYRange .slave 0x0010 0x001F) ∧
  decode Config.cfgT (.command [0x91, 0x00]) = .ok (.cmdEntryMode .slave .xIncYInc) ∧
  decode Config.cfgT (.command [0x22, 0xF7]) = .ok (.cmdUpdateControl2 [0xF7])

/-- O4. The four pseudo-operations of R64 assemble to the request they spell. -/
def Obligations.PseudoOperations : Prop :=
  assemble "REFRESH_FULL" [] = assemble "REFRESH" [("partial", 0)] ∧
  assemble "REFRESH_PARTIAL" [] = assemble "REFRESH" [("partial", 1)] ∧
  assemble "FORCE_FULL_REFRESH" [] = assemble "SET_REFRESH_MODE" [("mode", 3)] ∧
  assemble "REQUEST_FAST_REFRESH" [] = assemble "SET_REFRESH_MODE" [("mode", 2)] ∧
  assemble "REFRESH" [("partial", 1)] = some (.refresh true) ∧
  assemble "SET_REFRESH_MODE" [("mode", 2)] = some (.setRefreshMode .fastRefresh)

/-- O5. The per-instruction statements reach a run through this one: the step takes the input, latches a request's
words (R18) and runs the decoded instruction. The port is the model's own field (log 12). -/
def Obligations.StepRunsDecodedInstruction : Prop :=
  ∀ (s : State) (e : Encoded) (rest : List Input) (i : Instr),
    s.port = .submit e :: rest → s.engine = .idle → s.cfg.ok = true → decode s.cfg e = .ok i →
    step s = exec i ((s.served rest).accept e)

/-- O6. No request faults, is refused, dropped or merged, whatever its 192 bits are (R150, R163). One operation is one
step and the port is a field of the model (DESIGN CHOICE, logs 8, 12). -/
def Obligations.RequestsServedInOrder : Prop :=
  ∀ (s : State) (k : Nat), s.engine = .idle → s.cfg.ok = true → onlyHostInputs s = true →
    ∃ t, Sys2Proof.core.run k s = .next t ∧ t.engine = .idle ∧ t.cfg = s.cfg ∧ t.port = s.port.drop k

/-- O7. The latch holds the accepted descriptor when the operation has completed (R18, R43, R50). -/
def Obligations.RequestLatchedAndHeld : Prop :=
  ∀ (s : State) (d : Descriptor) (rest : List Input),
    s.port = .submit (.request d) :: rest → s.engine = .idle → s.cfg.ok = true →
    ∃ t, step s = .next t ∧ t.latch = d ∧ t.port = rest

/-- O8. Source memory belongs to the host (R30), which may change it between operations (R43, R173). Stores as inputs
of the step are the model's choice (DESIGN CHOICE, log 14). -/
def Obligations.HostStoreWritesOneByte : Prop :=
  ∀ (s : State) (space : SourceSpace) (a : Word) (b : Byte) (rest : List Input),
    s.port = .store space a b :: rest → s.engine = .idle →
    ∃ t, step s = .next t ∧ Memory.read? (t.memory space) a.toNat = some b ∧
      (∀ space' a', space' ≠ space ∨ a' ≠ a.toNat →
        Memory.read? (t.memory space') a' = Memory.read? (s.memory space') a') ∧
      t.st = s.st ∧ t.engine = s.engine ∧ t.latch = s.latch ∧ t.status = s.status ∧ t.done = s.done ∧ t.events = s.events ∧
      t.cfg = s.cfg ∧ t.port = rest

/-- O9. The seven fields after reset (R22, R170). That hibernating may be a platform parameter is R171 and U13 (log
7). That the inputs waiting stay is the model's choice (DESIGN CHOICE, log 12). -/
def Obligations.ResetValues : Prop :=
  (∀ (s : State) (rest : List Input), s.port = .reset :: rest →
    ∃ t, step s = .next t ∧
      t.st = ⟨.fullRefresh, false, false, false, true, s.cfg.hibernatingAtReset, true⟩ ∧
      t.engine = .idle ∧ t.events = [] ∧ t.cfg = s.cfg ∧ (∀ space, t.memory space = s.memory space) ∧ t.port = rest) ∧
  State.reset.st = ⟨.fullRefresh, false, false, false, true, false, true⟩ ∧
  State.reset.engine = .idle ∧ State.reset.events = []

/-- O10. The invariant of StepKeepsBoundary holds right after reset (R21: from reset onward). R170 leaves the status
unspecified there: its zero bits are the model's choice of 0x00 (DESIGN CHOICE, log 4). -/
def Obligations.BoundaryHoldsAtReset : Prop :=
  atBoundary State.reset = true ∧ ∀ c : Cfg, c.ok = true → atBoundary (State.resetWith c) = true

/-- O11. The five invariants of R21 with R127, the IDLE engine (R19), the zero status bits (R62 for a completed
operation; after a reset input the model's choice of status 0x00, DESIGN CHOICE, log 4) and the constant CFG (R4),
kept by every step from every such state. The canonical form of the memories is the model's. -/
def Obligations.StepKeepsBoundary : Prop :=
  ∀ s t : State, atBoundary s = true → s.cfg.ok = true → step s = .next t → atBoundary t = true ∧ t.cfg = s.cfg

/-- O12. The DCP writes no memory it can address (R30, R33), CFG is written by no operation (R4, R161), and the latch
is held (R18). -/
def Obligations.NothingElseWritten : Prop :=
  ∀ (i : Instr) (s t : State), exec i s = .next t → SameEnvironment s t

/-- O13. Both bits are true from reset until first cleared, then false until the next reset (R15, R17, R178). -/
def Obligations.PendingFlagsOnlyCleared : Prop :=
  ∀ (i : Instr) (s t : State), s.st.powerIsOn = false → exec i s = .next t →
    (s.st.initialWritePending = false → t.st.initialWritePending = false) ∧
    (s.st.initialRefreshPending = false → t.st.initialRefreshPending = false)

/-- O14. The transitions of R110 over all 36 instructions: not a write, not POWER_OFF, not HIBERNATE, not a timeout
changes the mode otherwise. -/
def Obligations.ModeChangesOnlyAsListed : Prop :=
  ∀ (i : Instr) (s t : State), s.st.powerIsOn = false → exec i s = .next t → t.st.refreshMode ≠ s.st.refreshMode →
    (t.st.refreshMode = .fullRefresh ∧ t.st.displayInitialized = true ∧ t.st.grayscaleInitialized = false) ∨
    (t.st.refreshMode = .greyRefresh ∧ isGrey i = true ∧ t.st.grayscaleInitialized = true ∧
      t.st.displayInitialized = false) ∨
    (i = .setRefreshMode .forcedFullRefresh ∧ t.st.refreshMode = .forcedFullRefresh) ∨
    (i = .setRefreshMode .fastRefresh ∧ t.st.refreshMode = .fastRefresh)

/-- O15. Reset is emitted only when CFG.HAS_RESET_LINE (R56, R113). -/
def Obligations.ResetEventNeedsResetLine : Prop :=
  ∀ (i : Instr) (s t : State), s.st.lattice s.cfg = true → exec i s = .next t → Event.resetLine ∈ t.events →
    s.cfg.hasResetLine = true

/-- O16. WaitBusy (R112). The scripted answers and the draw counter are the model's own fields (log 5). -/
def Obligations.WaitBusyTakesOneAnswer : Prop :=
  ∀ (s : State) (ms : Nat), (s.waitBusy ms).events = s.events ++ [.wait ms] ∧ (s.waitBusy ms).st = s.st ∧
    (s.waitBusy ms).cfg = s.cfg ∧ (s.waitBusy ms).memory = s.memory ∧
    (s.waitBusy ms).status = (if s.answerAt 0 = true then s.status ||| 0x80 else s.status) ∧
    (s.waitBusy ms).busyInputs = s.busyInputs.drop 1

/-- O17. BUSY_TIMEOUT is the only trace of a timeout and is sticky within the operation (R62, R112, R152). The
answers, scripted or free draws, are the model's fields (log 5); the statement holds for every value of the draws. -/
def Obligations.BusyTimeoutBit : Prop :=
  ∀ (i : Instr) (s : State), isRequest i = true → s.st.powerIsOn = false →
    ∃ t, exec i s = .next t ∧
      (t.status.msb = true ↔ ∃ k, k < waitCount t.events ∧ s.answerAt k = true) ∧
      t.busyInputs = s.busyInputs.drop (waitCount t.events) ∧
      t.draws = s.draws + (waitCount t.events - s.busyInputs.length)

/-- O18. The event list never depends on a busy-wait answer; only the completion status does (R3, R112, R152). -/
def Obligations.BusyAnswersReachStatusOnly : Prop :=
  ∀ (i : Instr) (s s' : State), isRequest i = true → s.st.powerIsOn = false → SameButAnswers s s' →
    ∃ t t', exec i s = .next t ∧ exec i s' = .next t' ∧ SameButAnswers t t' ∧ t.status &&& 0x7F = t'.status &&& 0x7F

/-- O19. The status word of R62 and the cause table of R150; BUSY_TIMEOUT never accompanies codes 1, 2 or 4 (R157). -/
def Obligations.StatusHasOneCode : Prop :=
  ∀ (i : Instr) (s : State), isRequest i = true → s.st.powerIsOn = false →
    ∃ t code, exec i s = .next t ∧ Completed t code ∧
      (code = .noopGeometry ∨ code = .noopBpp ∨ code = .noopReserved → DidNothing s t code)

/-- O20. Reserved opcodes (R54), for the instruction and for the step on the request's own words. -/
def Obligations.ReservedOpcodeDoesNothing : Prop :=
  (∀ (opcode : Byte) (s : State), ∃ t, exec (.reserved opcode) s = .next t ∧ DidNothing s t .noopReserved) ∧
  (∀ (s : State) (d : Descriptor) (rest : List Input),
    s.port = .submit (.request d) :: rest → s.engine = .idle → s.cfg.ok = true →
    (field d.w0 0 8 = 0x00 ∨ 0x13 ≤ (field d.w0 0 8).toNat) →
    ∃ t, step s = .next t ∧ t.st = s.st ∧ t.events = [] ∧ t.status = 0x04 ∧ t.done = true ∧ t.engine = .idle ∧
      ∀ space, t.memory space = s.memory space)

/-- O21. The table of R151, row by row; the conditions are spelled out over the signed operands in Safety.lean
(imageRefused, partRefused, regionRefused). -/
def Obligations.GeometryErrorsAreNoops : Prop :=
  ∀ (s : State) (bpp value : Byte) (f : GreyFormat) (b : BitmapArgs) (p : PartArgs) (r : RectArgs) (m : RefreshMode)
    (onlyPart : Bool),
    s.st.powerIsOn = false → s.cfg.geometryOk = true → greyFormat s.cfg bpp = some f →
    (∀ i ∈ ([.writeImage b r, .writeImageAgain b r, .writeImage4G bpp b r, .drawImage b r, .drawImage4G bpp b r] : List Instr),
      RefusesExactly s i .noopGeometry (imageRefused s.cfg r)) ∧
    (∀ i ∈ ([.writeImagePart b p r, .writeImagePartAgain b p r, .drawImagePart b p r] : List Instr),
      RefusesExactly s i .noopGeometry (partRefused s.cfg 8 p r)) ∧
    (∀ i ∈ ([.writeImagePart4G bpp b p r, .drawImagePart4G bpp b p r] : List Instr),
      RefusesExactly s i .noopGeometry (partRefused s.cfg f.ppb p r)) ∧
    RefusesExactly s (.refreshRegion r) .noopGeometry
      (s.st.initialRefreshPending = false ∧ s.st.refreshMode ≠ .forcedFullRefresh ∧ s.st.refreshMode ≠ .greyRefresh ∧
        regionRefused s.cfg r) ∧
    (∀ i ∈ ([.clearScreen value, .writeScreenBuffer value, .writeScreenBufferAgain value, .refresh onlyPart,
        .setRefreshMode m, .powerOff, .hibernate] : List Instr),
      RefusesExactly s i .noopGeometry False)

/-- O22. The bpp check comes before any other (R154, R157). -/
def Obligations.UnsupportedBppIsNoop : Prop :=
  ∀ (s : State) (bpp : Byte) (b : BitmapArgs) (p : PartArgs) (r : RectArgs), s.st.powerIsOn = false →
    ∀ i ∈ ([.writeImage4G bpp b r, .writeImagePart4G bpp b p r, .drawImage4G bpp b r, .drawImagePart4G bpp b p r] : List Instr),
      RefusesExactly s i .noopBpp (bpp ≠ 2 ∧ bpp ≠ 4 ∧ bpp ≠ 8)

/-- O23. SET_REFRESH_MODE (R124), from every state. -/
def Obligations.SetRefreshModeResult : Prop :=
  ∀ s : State,
    (∃ t, exec (.setRefreshMode .forcedFullRefresh) s = .next t ∧
      Result s t .ok { s.st with refreshMode := .forcedFullRefresh } []) ∧
    (∃ t, exec (.setRefreshMode .fastRefresh) s = .next t ∧ Result s t .ok { s.st with refreshMode := .fastRefresh } []) ∧
    (∃ t, exec (.setRefreshMode .fullRefresh) s = .next t ∧ DidNothing s t .noopReserved) ∧
    (∃ t, exec (.setRefreshMode .greyRefresh) s = .next t ∧ DidNothing s t .noopReserved)

/-- O24. POWER_OFF (R125) with the procedure PowerOff (R117) in both of its cases. -/
def Obligations.PowerOffResult : Prop :=
  ∀ s : State,
    (s.st.powerIsOn = false → ∃ t, exec .powerOff s = .next t ∧ DidNothing s t .ok) ∧
    (s.st.powerIsOn = true → ∃ t, exec .powerOff s = .next t ∧
      Result s t .ok { s.st with powerIsOn := false } (seqEvents s.cfg s.cfg.seqPowerOff ++ [.wait s.cfg.powerOffMs]))

/-- O25. HIBERNATE (R126, R153) at an operation boundary, where PowerOff emits nothing (R127). -/
def Obligations.HibernateResult : Prop :=
  ∀ s : State, s.st.powerIsOn = false →
    (s.cfg.hasResetLine = true → ∃ t, exec .hibernate s = .next t ∧
      Result s t .ok { s.st with hibernating := true, displayInitialized := false, grayscaleInitialized := false }
        [.cmd 0x10, .data 0x01]) ∧
    (s.cfg.hasResetLine = false → ∃ t, exec .hibernate s = .next t ∧ DidNothing s t .hibernateSkipped)

/-- O26. Hibernating forces re-initialization on next use, with the wake of R113 first (R126, R165). -/
def Obligations.WakeAfterHibernate : Prop :=
  ∀ s : State, s.st.powerIsOn = false → s.cfg.hasResetLine = true →
    ∃ t u, exec .hibernate s = .next t ∧ exec (.refresh false) t = .next u ∧
      u.events = [.resetLine, .delay s.cfg.resetMs] ++ seqEvents s.cfg s.cfg.seqInitPlain ++ updateFullEvents s.cfg ∧
      u.st = ⟨.fullRefresh, false, true, false, s.st.initialWritePending, false, false⟩

/-- O27. EmitSeq (R111) and the items of R61. -/
def Obligations.EmitSeqEmitsItsItems : Prop :=
  ∀ (s : State) (items : List SeqItem), (s.emitSeq items).events = s.events ++ seqEvents s.cfg items ∧
    (s.emitSeq items).st = s.st ∧ (s.emitSeq items).cfg = s.cfg

/-- O28. REFRESH with partial = 0 (R122) and FullRefresh (R121), in closed form (Machine/Traces.lean). -/
def Obligations.RefreshResult : Prop :=
  ∀ s : State, s.st.powerIsOn = false →
    ∃ t, exec (.refresh false) s = .next t ∧ Result s t .ok (afterFullRefresh s.st) (fullRefreshEvents s.cfg s.st)

/-- O29. REFRESH_REGION (R123): mode gating as an equality of outcomes, then the two other cases. -/
def Obligations.RefreshRegionResult : Prop :=
  ∀ (s : State) (r : RectArgs), s.st.powerIsOn = false →
    ((s.st.initialRefreshPending = true ∨ s.st.refreshMode = .forcedFullRefresh ∨ s.st.refreshMode = .greyRefresh) →
      exec (.refreshRegion r) s = exec (.refresh false) s) ∧
    (s.st.initialRefreshPending = false → s.st.refreshMode ≠ .forcedFullRefresh → s.st.refreshMode ≠ .greyRefresh →
      (alignRegion s.cfg (rectOf r) = none → ∃ t, exec (.refreshRegion r) s = .next t ∧ DidNothing s t .noopGeometry) ∧
      (alignRegion s.cfg (rectOf r) ≠ none → ∃ t, exec (.refreshRegion r) s = .next t ∧
        Result s t .ok (if refreshInitializes s.st then afterInitPlain s.st else s.st)
          ((if refreshInitializes s.st then initPlainEvents s.cfg s.st.hibernating else []) ++ updatePartEvents s.cfg)))

/-- O30. REFRESH with partial = 1 runs the body of REFRESH_REGION over the panel, which is never empty (R122, R151).
-/
def Obligations.PartialRefreshIsWholePanelRegion : Prop :=
  ∀ s : State, s.cfg.geometryOk = true →
    exec (.refresh true) s
      = exec (.refreshRegion ⟨0, 0, BitVec.ofNat 16 s.cfg.width, BitVec.ofNat 16 s.cfg.height⟩) s ∧
    (s.st.powerIsOn = false → ∃ t, exec (.refresh true) s = .next t ∧
      Result s t .ok (afterRegionRefresh s.st) (regionRefreshEvents s.cfg s.st))

/-- O31. The table of R128, one clause for each row and column. -/
def Obligations.RefreshTable : Prop :=
  ∀ (s : State) (r : RectArgs), s.st.powerIsOn = false → s.st.lattice s.cfg = true →
    alignRegion s.cfg (rectOf r) ≠ none →
    let row (init : Bool) (whole region upgraded : UpdateKind) : Prop :=
      RunsUpdate s (.refresh false) init whole ∧
      (s.st.initialRefreshPending = false → RunsUpdate s (.refreshRegion r) init region) ∧
      (s.st.initialRefreshPending = true → RunsUpdate s (.refreshRegion r) init upgraded)
    (s.st.refreshMode = .fullRefresh → s.st.displayInitialized = true → s.st.grayscaleInitialized = false →
      row false .full .part .full) ∧
    (s.st.refreshMode = .fullRefresh → s.st.displayInitialized = false → s.st.grayscaleInitialized = false →
      row true .full .part .full) ∧
    (s.st.refreshMode = .greyRefresh → s.st.displayInitialized = false → s.st.grayscaleInitialized = true →
      row false .grey .grey .grey) ∧
    (s.st.refreshMode = .greyRefresh → s.st.displayInitialized = false → s.st.grayscaleInitialized = false →
      row true .full .full .full) ∧
    (s.st.refreshMode = .fastRefresh → s.st.displayInitialized ≠ s.st.grayscaleInitialized → row true .full .part .full) ∧
    (s.st.refreshMode = .fastRefresh → s.st.displayInitialized = false → s.st.grayscaleInitialized = false →
      row true .full .part .full) ∧
    (s.st.refreshMode = .forcedFullRefresh → row true .full .full .full)

/-- O32. CLEAR_SCREEN (R134) and ClearScreen (R133), in closed form. -/
def Obligations.ClearScreenResult : Prop :=
  ∀ (value : Byte) (s : State), s.st.powerIsOn = false →
    ∃ t, exec (.clearScreen value) s = .next t ∧ Result s t .ok (afterClear s.st) (clearEvents s.cfg s.st value) ∧
      t.st.initialWritePending = false ∧ t.st.initialRefreshPending = false

/-- O33. WRITE_SCREEN_BUFFER (R135) and WRITE_SCREEN_BUFFER_AGAIN (R136), after the redirect (R130, R133).
FillPlanesIsTheLoop pins the fill. -/
def Obligations.FillResults : Prop :=
  ∀ (value : Byte) (s : State), s.st.powerIsOn = false →
    (∃ t, exec (.writeScreenBuffer value) s = .next t ∧
      Result s t .ok (afterEnsurePlain (afterRedirect s.st))
        (redirectEvents s.cfg s.st value ++ ensurePlainEvents s.cfg (afterRedirect s.st)
          ++ fillEvents s.cfg [.current] value)) ∧
    (∃ t, exec (.writeScreenBufferAgain value) s = .next t ∧
      Result s t .ok (afterEnsurePlain (afterRedirect s.st))
        (redirectEvents s.cfg s.st value ++ ensurePlainEvents s.cfg (afterRedirect s.st)
          ++ fillEvents s.cfg [.previous, .current] value))

/-- O34. The event counts of R185 that hold for every CFG, that a fill's bulk bytes are all its value (R99, R132), and
what UpdatePart emits (R120). -/
def Obligations.EventCounts : Prop :=
  (∀ c t m lx ly w h, (setWindow c t m lx ly w h).length = 16) ∧
  (∀ (c : Cfg) (plane : Plane) (value : Byte), c.geometryOk = true →
    (fillEvents c [plane] value).length = 76 + c.width * c.height / 8 ∧
    (fillEvents c [plane] value).count (.bulk value) = c.width * c.height / 8) ∧
  (∀ s : State,
    s.updatePart.events = s.events ++ (.cmd 0x3C :: s.cfg.borderPartData.map .data)
      ++ (.cmd 0x21 :: s.cfg.updctl1PartData.map .data) ++ [.cmd 0x22, .data 0xFF, .cmd 0x20, .wait s.cfg.partialMs] ∧
    s.updatePart.events.length = s.events.length + (6 + s.cfg.borderPartData.length + s.cfg.updctl1PartData.length))

/-- O35. The 1bpp writes (R137 to R140) with the order of steps of R130. ImagePlaced and PartPlaced spell the geometry
and the source view from the operands, planeSent spells the loop of R131. -/
def Obligations.MonoWriteResults : Prop :=
  ∀ (s : State) (b : BitmapArgs) (p : PartArgs) (r : RectArgs) (wl hl : Int) (clip : Clip) (src : SourceView),
    s.st.powerIsOn = false →
    let before := redirectEvents s.cfg s.st s.cfg.initialFill ++ ensurePlainEvents s.cfg (afterRedirect s.st)
    let after := afterEnsurePlain (afterRedirect s.st)
    let sent (plane : Plane) := planeSent s.cfg clip plane fun sub => s.monoBytes sub src
    (ImagePlaced s.cfg 1 b r clip src →
      (∃ t, exec (.writeImage b r) s = .next t ∧ Result s t .ok after (before ++ sent .current)) ∧
      (∃ t, exec (.writeImageAgain b r) s = .next t ∧ Result s t .ok after (before ++ sent .previous ++ sent .current))) ∧
    (PartPlaced s.cfg 1 8 b p r wl hl clip src →
      (∃ t, exec (.writeImagePart b p r) s = .next t ∧ Result s t .ok after (before ++ sent .current)) ∧
      (∃ t, exec (.writeImagePartAgain b p r) s = .next t ∧
        Result s t .ok after (before ++ sent .previous ++ sent .current)))

/-- O36. The grayscale writes (R141, R142): previous plane first, and no update is triggered (R177). ImagePlaced and
PartPlaced spell the geometry and the source view from the operands, the pixels of a source byte are 8 / bpp (R100),
planeSent spells the loop of R131. -/
def Obligations.GreyWriteResults : Prop :=
  ∀ (s : State) (bpp : Byte) (f : GreyFormat) (b : BitmapArgs) (p : PartArgs) (r : RectArgs) (wl hl : Int) (clip : Clip)
    (src : SourceView),
    s.st.powerIsOn = false → greyFormat s.cfg bpp = some f →
    let sent (plane : Plane) := planeSent s.cfg clip plane fun sub => s.greyBytes f plane sub src
    let events := redirectEvents s.cfg s.st s.cfg.initialFill ++ ensureGreyEvents s.cfg (afterRedirect s.st)
      ++ sent .previous ++ sent .current
    let after := afterEnsureGrey (afterRedirect s.st)
    (ImagePlaced s.cfg bpp.toNat b r clip src →
      ∃ t, exec (.writeImage4G bpp b r) s = .next t ∧ Result s t .ok after events) ∧
    (PartPlaced s.cfg bpp.toNat (8 / bpp.toNat : Nat) b p r wl hl clip src →
      ∃ t, exec (.writeImagePart4G bpp b p r) s = .next t ∧ Result s t .ok after events)

/-- O37. The 1bpp draws (R143, R144) against the three operations they combine, whose own results MonoWriteResults and
RefreshRegionResult say. The free source bytes are fixed over one operation, so the third write runs under the draw's
operation number (the model's field epoch, log 6). -/
def Obligations.MonoDrawIsWriteRefreshAgain : Prop :=
  ∀ (s : State) (b : BitmapArgs) (p : PartArgs) (r : RectArgs) (wl hl : Int) (clip : Clip) (src : SourceView),
    s.st.powerIsOn = false → s.cfg.geometryOk = true →
    let combines (draw write again : Instr) (region : RectArgs) : Prop :=
      ∃ t1 t2 t3 t, exec write s = .next t1 ∧ exec (.refreshRegion region) t1 = .next t2 ∧
        exec again { t2 with epoch := s.epoch } = .next t3 ∧ exec draw s = .next t ∧
        Result s t .ok t3.st (t1.events ++ t2.events ++ t3.events) ∧
        t.status = t1.status ||| t2.status ||| t3.status ∧ t.busyInputs = t3.busyInputs ∧ t.draws = t3.draws
    (ImagePlaced s.cfg 1 b r clip src → combines (.drawImage b r) (.writeImage b r) (.writeImageAgain b r) r) ∧
    (PartPlaced s.cfg 1 8 b p r wl hl clip src →
      combines (.drawImagePart b p r) (.writeImagePart b p r) (.writeImagePartAgain b p r)
        ⟨r.x, r.y, BitVec.ofInt 16 wl, BitVec.ofInt 16 hl⟩)

/-- O38. The grayscale draws (R145, R146) against the two operations they combine, whose own results GreyWriteResults
and RefreshRegionResult say: no Again step, and the region refresh runs UpdateGrey in grey_refresh. -/
def Obligations.GreyDrawIsWriteRefresh : Prop :=
  ∀ (s : State) (bpp : Byte) (f : GreyFormat) (b : BitmapArgs) (p : PartArgs) (r : RectArgs) (wl hl : Int) (clip : Clip)
    (src : SourceView),
    s.st.powerIsOn = false → s.cfg.geometryOk = true → greyFormat s.cfg bpp = some f →
    let combines (draw write : Instr) (region : RectArgs) : Prop :=
      ∃ t1 t2 t, exec write s = .next t1 ∧ exec (.refreshRegion region) t1 = .next t2 ∧ exec draw s = .next t ∧
        Result s t .ok t2.st (t1.events ++ t2.events) ∧ t.status = t1.status ||| t2.status ∧
        t.busyInputs = t2.busyInputs ∧ t.draws = t2.draws ∧
        (t1.st.refreshMode = .greyRefresh → t2.events = updateGreyEvents s.cfg)
    (ImagePlaced s.cfg bpp.toNat b r clip src → combines (.drawImage4G bpp b r) (.writeImage4G bpp b r) r) ∧
    (PartPlaced s.cfg bpp.toNat (8 / bpp.toNat : Nat) b p r wl hl clip src →
      combines (.drawImagePart4G bpp b p r) (.writeImagePart4G bpp b p r)
        ⟨r.x, r.y, BitVec.ofInt 16 wl, BitVec.ofInt 16 hl⟩)

/-- O39. The hazard discipline kept by the DCP (R175, R176, R91, R92), over all 36 instructions. -/
def Obligations.EveryTransferHasItsWindow : Prop :=
  ∀ (i : Instr) (s t : State), s.cfg.ok = true → s.st.powerIsOn = false → exec i s = .next t →
    Disciplined s.cfg t.events

/-- O40. The parameter bytes of R57. A command driven alone on the transport is the model's choice (DESIGN CHOICE, log
10). -/
def Obligations.PlainCommandsSendTheirBytes : Prop :=
  ∀ (s : State) (ps : List Byte),
    exec (.cmdSoftStart ps) s = .next { s with events := .cmd 0x0C :: ps.map .data } ∧
    exec .cmdDeepSleep s = .next { s with events := [.cmd 0x10, .data 0x01] } ∧
    exec .cmdSoftwareReset s = .next { s with events := [.cmd 0x12] } ∧
    exec (.cmdTemperature18 ps) s = .next { s with events := .cmd 0x18 :: ps.map .data } ∧
    exec (.cmdTemperature1A ps) s = .next { s with events := .cmd 0x1A :: ps.map .data } ∧
    exec .cmdMasterActivation s = .next { s with events := [.cmd 0x20] } ∧
    exec .cmdUpdateControl1 s = .next { s with events := .cmd 0x21 :: s.cfg.updctl1PartData.map .data } ∧
    exec (.cmdUpdateControl2 ps) s = .next { s with events := .cmd 0x22 :: ps.map .data } ∧
    exec .cmdLutLoad s = .next { s with events := .cmd 0x32 :: s.cfg.lut4G.map .data } ∧
    exec (.cmdBorder ps) s = .next { s with events := .cmd 0x3C :: ps.map .data }

/-- O41. The target bit of R58 and the byte order of R35. A command driven alone on the transport is the model's
choice (DESIGN CHOICE, log 10). -/
def Obligations.TargetedCommandsSendTheirBytes : Prop :=
  ∀ (s : State) (first last : Byte) (row row' : Half) (m : ScanMode), ∀ tb ∈ [(Target.master, (0x00 : Byte)), (.slave, 0x80)],
    exec (.cmdWriteCurrent tb.1) s = .next { s with events := [.cmd (0x24 ||| tb.2)] } ∧
    exec (.cmdWritePrevious tb.1) s = .next { s with events := [.cmd (0x26 ||| tb.2)] } ∧
    exec (.cmdSetXRange tb.1 first last) s = .next { s with events := [.cmd (0x44 ||| tb.2), .data first, .data last] } ∧
    exec (.cmdSetYRange tb.1 row row') s
      = .next { s with events := [.cmd (0x45 ||| tb.2), .data (row.extractLsb' 0 8), .data (row.extractLsb' 8 8),
          .data (row'.extractLsb' 0 8), .data (row'.extractLsb' 8 8)] } ∧
    exec (.cmdSetXCounter tb.1 first) s = .next { s with events := [.cmd (0x4E ||| tb.2), .data first] } ∧
    exec (.cmdSetYCounter tb.1 row) s
      = .next { s with events := [.cmd (0x4F ||| tb.2), .data (row.extractLsb' 0 8), .data (row.extractLsb' 8 8)] } ∧
    exec (.cmdEntryMode tb.1 m) s
      = .next { s with events := [.cmd (s.cfg.cmdEntryMode ||| tb.2), .data (match m with
          | .xIncYInc => s.cfg.scanByte.xIncYInc
          | .xDecYInc => s.cfg.scanByte.xDecYInc
          | .xIncYDec => s.cfg.scanByte.xIncYDec
          | .xDecYDec => s.cfg.scanByte.xDecYDec)] }

/-- O42. AlignWrite (R70): floor8 of x, ceil8 of w. -/
def Obligations.AlignWriteRounds : Prop :=
  ∀ r : Rect, (alignWrite r).x % 8 = 0 ∧ (alignWrite r).x ≤ r.x ∧ r.x < (alignWrite r).x + 8 ∧
    (alignWrite r).w % 8 = 0 ∧ r.w ≤ (alignWrite r).w ∧ (alignWrite r).w < r.w + 8 ∧
    (alignWrite r).y = r.y ∧ (alignWrite r).h = r.h

/-- O43. ClipToPanel (R71), by the pixels it keeps. -/
def Obligations.ClipToPanelKeepsPanelPixels : Prop :=
  ∀ (c : Cfg) (r : Rect), c.geometryOk = true → r.x % 8 = 0 → r.w % 8 = 0 → 0 < r.w → 0 < r.h →
    (clipToPanel c r = none ↔ ∀ gx gy, ¬(inRect r gx gy ∧ inRect (wholePanel c).rect gx gy)) ∧
    (∀ clip, clipToPanel c r = some clip →
      (∀ gx gy, inRect clip.rect gx gy ↔ inRect r gx gy ∧ inRect (wholePanel c).rect gx gy) ∧
      clip.dx = clip.rect.x - r.x ∧ clip.dy = clip.rect.y - r.y ∧ trimmed c clip)

/-- O44. AlignRegion (R72): outward on both edges, unlike AlignWrite. -/
def Obligations.AlignRegionClipsThenRounds : Prop :=
  ∀ (c : Cfg) (r : Rect), c.geometryOk = true →
    (alignRegion c r = none ↔ r.w ≤ 0 ∨ r.h ≤ 0 ∨ ∀ gx gy, ¬(inRect r gx gy ∧ inRect (wholePanel c).rect gx gy)) ∧
    (∀ a, alignRegion c r = some a →
      a.x % 8 = 0 ∧ a.w % 8 = 0 ∧ 0 ≤ a.x ∧ a.x + a.w ≤ panelWidth c ∧
      a.x ≤ max r.x 0 ∧ max r.x 0 < a.x + 8 ∧
      min (r.x + r.w) (panelWidth c) ≤ a.x + a.w ∧ a.x + a.w < min (r.x + r.w) (panelWidth c) + 8 ∧
      a.y = max r.y 0 ∧ a.y + a.h = min (r.y + r.h) (panelHeight c))

/-- O45. The invariants of a sub-rectangle (R78). -/
def Obligations.SubRectInvariants : Prop :=
  ∀ (c : Cfg) (clip : Clip) (sub : SubRect), c.geometryOk = true → trimmed c clip → sub ∈ partition c clip →
    0 < sub.w ∧ 0 < sub.h ∧ sub.lx % 8 = 0 ∧ sub.w % 8 = 0 ∧ sub.sdx % 8 = 0 ∧
    0 ≤ sub.lx ∧ sub.lx + sub.w ≤ controllerWidth c ∧ 0 ≤ sub.ly ∧ sub.ly + sub.h ≤ controllerHeight c ∧
    0 ≤ sub.sdx ∧ 0 ≤ sub.sdy

/-- O46. No gaps, no overlaps (R79 item 2), for any rectangle Partition takes, with the local coordinates of R75. -/
def Obligations.PartitionNoGapsNoOverlaps : Prop :=
  ∀ (c : Cfg) (clip : Clip) (gx gy : Int), c.geometryOk = true → clippedAligned c clip.rect →
    (inRect clip.rect gx gy → (partition c clip).countP (covers c gx gy) = 1) ∧
    (¬inRect clip.rect gx gy → (partition c clip).countP (covers c gx gy) = 0) ∧
    ((partition c clip).map fun sub => sub.w * sub.h).sum = clip.rect.w * clip.rect.h

/-- O47. The source offset (R76), in global coordinates for mirrored and unmirrored quadrants alike. -/
def Obligations.SourceOffsetFollowsPixel : Prop :=
  ∀ (c : Cfg) (clip : Clip) (sub : SubRect) (gx gy : Int), c.geometryOk = true → clippedAligned c clip.rect →
    sub ∈ partition c clip → covers c gx gy sub = true →
    (sub.target = .slave →
      sub.sdx + (gx - sub.lx) = clip.dx + (gx - clip.rect.x) ∧ sub.sdy + (gy - sub.ly) = clip.dy + (gy - clip.rect.y)) ∧
    (sub.target = .master →
      sub.sdx + (gx - (panelWidth c - (sub.lx + sub.w))) = clip.dx + (gx - clip.rect.x) ∧
      sub.sdy + (gy - (panelHeight c - (sub.ly + sub.h))) = clip.dy + (gy - clip.rect.y))

/-- O48. Items 1 and 5 of R79. -/
def Obligations.OneQuadrantAndWholePanel : Prop :=
  ∀ c : Cfg, c.geometryOk = true →
    (∀ (clip : Clip) (q : Quadrant), clippedAligned c clip.rect →
      (q.xRange c).1 ≤ clip.rect.x → clip.rect.x + clip.rect.w ≤ (q.xRange c).2 →
      (q.yRange c).1 ≤ clip.rect.y → clip.rect.y + clip.rect.h ≤ (q.yRange c).2 →
      partition c clip =
        [match q.target with
          | .slave => ⟨.slave, .xIncYInc, clip.rect.x, clip.rect.y, clip.rect.w, clip.rect.h, clip.dx, clip.dy⟩
          | .master => ⟨.master, .xDecYDec, panelWidth c - (clip.rect.x + clip.rect.w),
              panelHeight c - (clip.rect.y + clip.rect.h), clip.rect.w, clip.rect.h, clip.dx, clip.dy⟩]) ∧
    partition c (wholePanel c) =
      [⟨.slave, .xIncYInc, 0, 0, controllerWidth c, panelHeight c / 2, 0, 0⟩,
        ⟨.slave, .xIncYInc, 0, panelHeight c / 2, controllerWidth c, panelHeight c / 2, 0, panelHeight c / 2⟩,
        ⟨.master, .xDecYDec, 0, panelHeight c / 2, controllerWidth c, panelHeight c / 2, controllerWidth c, 0⟩,
        ⟨.master, .xDecYDec, 0, 0, controllerWidth c, panelHeight c / 2, controllerWidth c, panelHeight c / 2⟩]

/-- O49. SetWindow (R85 with R86 to R90): no column or row is truncated by its byte or its 16 bits (R60). -/
def Obligations.SetWindowSendsItsBounds : Prop :=
  ∀ (c : Cfg) (t : Target) (m : ScanMode) (lx ly w h : Int), c.geometryOk = true →
    0 ≤ lx → lx % 8 = 0 → 0 < w → w % 8 = 0 → lx + w ≤ controllerWidth c →
    0 ≤ ly → 0 < h → ly + h ≤ controllerHeight c →
    ∃ (xa xb : Byte) (ya yb : Half),
      setWindow c t m lx ly w h =
        [.cmd (c.cmdEntryMode ||| t.bit), .data (scanByte c m),
          .cmd (0x44 ||| t.bit), .data xa, .data xb,
          .cmd (0x45 ||| t.bit), .data (ya.extractLsb' 0 8), .data (ya.extractLsb' 8 8),
            .data (yb.extractLsb' 0 8), .data (yb.extractLsb' 8 8),
          .cmd (0x4E ||| t.bit), .data xa,
          .cmd (0x4F ||| t.bit), .data (ya.extractLsb' 0 8), .data (ya.extractLsb' 8 8),
          .delay c.windowSettleMs] ∧
      (m = .xIncYInc ∨ m = .xIncYDec → (xa.toNat : Int) = lx / 8 ∧ (xb.toNat : Int) = (lx + w) / 8 - 1) ∧
      (m = .xDecYInc ∨ m = .xDecYDec → (xa.toNat : Int) = (lx + w) / 8 - 1 ∧ (xb.toNat : Int) = lx / 8) ∧
      (m = .xIncYInc ∨ m = .xDecYInc → (ya.toNat : Int) = ly ∧ (yb.toNat : Int) = ly + h - 1) ∧
      (m = .xIncYDec ∨ m = .xDecYDec → (ya.toNat : Int) = ly + h - 1 ∧ (yb.toNat : Int) = ly)

/-- O50. The source row of R96 and the guarantee the write operations give it. -/
def Obligations.SourceRowsStayInBitmap : Prop :=
  ∀ (c : Cfg) (bpp align : Int) (b : BitmapArgs) (p : PartArgs) (r : RectArgs) (wl hl : Int) (clip : Clip) (src : SourceView)
    (sub : SubRect) (i : Nat),
    c.geometryOk = true → (ImagePlaced c bpp b r clip src ∨ PartPlaced c bpp align b p r wl hl clip src) →
    sub ∈ partition c clip → (i : Int) < sub.h →
    0 ≤ src.yoff + sub.sdy + i ∧ src.yoff + sub.sdy + i < src.hsrc ∧
    (src.mirrorY = true → sourceRow src sub i = src.hsrc - 1 - (src.yoff + sub.sdy + i)) ∧
    (src.mirrorY = false → sourceRow src sub i = src.yoff + sub.sdy + i) ∧
    0 ≤ sourceRow src sub i ∧ sourceRow src sub i < src.hsrc

/-- O51. Item 3 of R108: mono, any operation, never. -/
def Obligations.MonoReadsStayInBitmap : Prop :=
  ∀ (c : Cfg) (b : BitmapArgs) (p : PartArgs) (r : RectArgs) (wl hl : Int) (clip : Clip) (src : SourceView) (sub : SubRect)
    (i j : Nat),
    c.geometryOk = true → (ImagePlaced c 1 b r clip src ∨ PartPlaced c 1 8 b p r wl hl clip src) →
    sub ∈ partition c clip → (i : Int) < sub.h → (j : Int) < sub.w / 8 →
    0 ≤ (src.xoff + sub.sdx) / 8 + j ∧ (src.xoff + sub.sdx) / 8 + j < src.stride ∧
    0 ≤ monoIndex src sub i j ∧ monoIndex src sub i j < src.extent

/-- O52. StreamMono (R98) with the transform of R97 and the address of R31. Source bytes the host has not provided, or
outside the extent, are free values (log 6). -/
def Obligations.MonoStreamSendsSourceBytes : Prop :=
  ∀ (s : State) (src : SourceView) (sub : SubRect), 0 < sub.w → sub.w % 8 = 0 → 0 < sub.h →
    ((s.monoBytes sub src).length : Int) = sub.w / 8 * sub.h ∧
    ∀ i j : Nat, (i : Int) < sub.h → (j : Int) < sub.w / 8 →
      let idx := sourceRow src sub i * src.stride + (src.xoff + sub.sdx) / 8 + j
      (s.monoBytes sub src)[i * (sub.w / 8).toNat + j]?
        = some (if src.invert = true then ~~~(s.sourceByte src idx) else s.sourceByte src idx) ∧
      ∀ byte, idx < src.extent →
        Memory.read? (s.memory src.space) ((src.base.toNat + idx.toNat) % 2 ^ 32) = some byte → s.sourceByte src idx = byte

/-- O53. The parameters of R100 and the classification of R101 over every byte. -/
def Obligations.GreyLevelsByValue : Prop :=
  ∀ (c : Cfg) (v : Byte),
    (∃ f, greyFormat c 2 = some f ∧ f.bpp = 2 ∧ f.ppb = 4 ∧ classify f (v &&& f.mask)
      = (if v &&& 0xC0 = 0xC0 then .white else if v &&& 0xC0 = 0x80 then .grayNearWhite
          else if v &&& 0xC0 = 0x40 then .grayNearBlack else .black)) ∧
    (∃ f, greyFormat c 4 = some f ∧ f.bpp = 4 ∧ f.ppb = 2 ∧ classify f (v &&& f.mask)
      = (if v &&& 0xF0 = 0xF0 then .white else if v &&& 0xF0 = 0x00 then .black
          else if 0xA0 ≤ (v &&& 0xF0).toNat then .grayNearWhite else .grayNearBlack)) ∧
    (∃ f, greyFormat c 8 = some f ∧ f.bpp = 8 ∧ f.ppb = 1 ∧ classify f (v &&& f.mask)
      = (if v = 0xFF then .white else if v = 0x00 then .black
          else if c.greyThreshold8.toNat ≤ v.toNat then .grayNearWhite else .grayNearBlack)) ∧
    (∀ bpp : Byte, bpp ≠ 2 → bpp ≠ 4 → bpp ≠ 8 → greyFormat c bpp = none)

/-- O54. PackGrey (R103) with the polarity of R105 and the order of R36, over the table, as U3 asks. -/
def Obligations.GreyPixelBitsSent : Prop :=
  ∀ (s : State) (bpp : Byte) (f : GreyFormat) (plane : Plane) (sub : SubRect) (src : SourceView) (i j p : Nat),
    greyFormat s.cfg bpp = some f → p < 8 →
    let idx := sourceRow src sub i * src.stride + (src.xoff + sub.sdx) / f.ppb + j * f.bpp + (p / f.ppb : Nat)
    let working := if src.invert = true then ~~~(s.sourceByte src idx) else s.sourceByte src idx
    let value := (working <<< (p % f.ppb * f.bpp)) &&& f.mask
    (s.packGrey f plane sub src i j).getLsbD (7 - p) = !planeBit s.cfg.grayPlaneTable plane (classify f value)

/-- O55. StreamGrey (R104): top row first, leftmost byte first, for both targets (R92). -/
def Obligations.GreyStreamSendsPackedBytes : Prop :=
  ∀ (s : State) (f : GreyFormat) (plane : Plane) (src : SourceView) (sub : SubRect), 0 < sub.w → sub.w % 8 = 0 → 0 < sub.h →
    ((s.greyBytes f plane sub src).length : Int) = sub.w / 8 * sub.h ∧
    ∀ i j : Nat, (i : Int) < sub.h → (j : Int) < sub.w / 8 →
      (s.greyBytes f plane sub src)[i * (sub.w / 8).toNat + j]? = some (s.packGrey f plane sub src i j)

/-- O56. The mirror law (R107). Its hypotheses on the columns exclude the reads past a source row that R108 lists for
grayscale widths that are not multiples of 8, whose values the spec leaves open. -/
def Obligations.MirrorLaw : Prop :=
  ∀ (s : State) (f : GreyFormat) (bpp : Byte) (plane : Plane) (src src' : SourceView) (sub : SubRect),
    greyFormat s.cfg bpp = some f → src.mirrorY = true →
    src'.mirrorY = false → src'.stride = src.stride → src'.hsrc = src.hsrc → src'.xoff = src.xoff → src'.yoff = src.yoff →
    src'.invert = src.invert → 0 ≤ src.xoff + sub.sdx → 0 ≤ src.yoff + sub.sdy → src.yoff + sub.sdy + sub.h ≤ src.hsrc →
    (∀ row col : Int, 0 ≤ row → row < src.hsrc → 0 ≤ col → col < src.stride →
      s.sourceByte src' (row * src.stride + col) = s.sourceByte src ((src.hsrc - 1 - row) * src.stride + col)) →
    ((src.xoff + sub.sdx) / 8 + sub.w / 8 ≤ src.stride → s.monoBytes sub src = s.monoBytes sub src') ∧
    ((src.xoff + sub.sdx) / f.ppb + sub.w / 8 * f.bpp ≤ src.stride →
      s.greyBytes f plane sub src = s.greyBytes f plane sub src')

/-- O57. What the optional sink of 93_implementation_defined.md G7 makes of a block. The sink is general knowledge,
not in source: PRESUMED, log 13; no rule of the spec is claimed of the controllers. -/
def Obligations.SinkStoresBlockWhereItBelongs : Prop :=
  ∀ (c : Cfg) (p : Panel) (plane : Plane) (clip : Clip) (sub : SubRect) (bytes : List Byte),
    c.geometryOk = true → sinkCfg c = true → clippedAligned c clip.rect → sub ∈ partition c clip →
    (bytes.length : Int) = sub.w / 8 * sub.h →
    let after := Panel.run c p (planeBlock c plane sub bytes)
    let cell (i j : Nat) : Byte × Half :=
      let gc := (clip.rect.x + (sub.sdx - clip.dx)) / 8 + j
      let gr := clip.rect.y + (sub.sdy - clip.dy) + i
      match sub.target with
      | .slave => (BitVec.ofInt 8 gc, BitVec.ofInt 16 gr)
      | .master => (BitVec.ofInt 8 (panelWidth c / 8 - 1 - gc), BitVec.ofInt 16 (panelHeight c - 1 - gr))
    (∀ i j : Nat, (i : Int) < sub.h → (j : Int) < sub.w / 8 →
      after.read? sub.target plane (cell i j).1 (cell i j).2 = bytes[i * (sub.w / 8).toNat + j]?) ∧
    (∀ (t : Target) (q : Plane) (col : Byte) (row : Half),
      (∀ i j : Nat, (i : Int) < sub.h → (j : Int) < sub.w / 8 →
        ¬(t = sub.target ∧ q = plane ∧ (col, row) = cell i j)) →
      after.read? t q col row = p.read? t q col row)

/-- O58. The last sentence of R133 and the source's idempotence property S6, under the optional sink G7 (PRESUMED, log
13). -/
def Obligations.SinkClearScreenFillsBothPlanes : Prop :=
  ∀ (s : State) (value : Byte) (p : Panel), s.cfg.ok = true → sinkCfg s.cfg = true → s.st.powerIsOn = false →
    ∃ t, exec (.clearScreen value) s = .next t ∧
      ∀ (target : Target) (plane : Plane) (col : Byte) (row : Half),
        (col.toNat : Int) < controllerWidth s.cfg / 8 → (row.toNat : Int) < controllerHeight s.cfg →
        (Panel.run s.cfg p t.events).read? target plane col row = some value

/-- O59. FillPlanes (R132) with StreamFill (R99), spelled by planeSent; the fills of ClearScreenResult and FillResults
are these. -/
def Obligations.FillPlanesIsTheLoop : Prop :=
  ∀ (s : State) (planes : List Plane) (value : Byte),
    let loop := planes.flatMap fun plane =>
      planeSent s.cfg ⟨⟨0, 0, s.cfg.width, s.cfg.height⟩, 0, 0⟩ plane fun sub => List.replicate (sub.w / 8 * sub.h).toNat value
    fillEvents s.cfg planes value = loop ∧ s.fillPlanes planes value = { s with events := s.events ++ loop }

/-- O60. The order SU, SL, MU, ML and the scan modes of R73, over every rectangle. -/
def Obligations.PartitionOrder : Prop :=
  ∀ (c : Cfg) (clip : Clip),
    (partition c clip).Pairwise (fun a b =>
      (a.target = .slave ∧ b.target = .master) ∨ (a.target = b.target ∧ a.sdy < b.sdy)) ∧
    ∀ sub ∈ partition c clip,
      (sub.target = .slave → sub.scan = .xIncYInc) ∧ (sub.target = .master → sub.scan = .xDecYDec)
end

