-- ==== Sys2Proof/Laws/Decode.lean ====
section
/-! SUPPORT. The fields of an encoded descriptor and the codes of encoded commands (30_encoding.md R50, R58). -/

namespace Sys2Proof

/-! ### Descriptor fields -/

/-- The opcode of W0 (R50). -/
@[simp] theorem field_wordZero_opcode (op : Byte) (a b c d : Bool) (m : BitVec 2) (v p : Byte) :
    field (wordZero op a b c d m v p) 0 8 = op := by
  ext i hi
  have h : i < 8 := hi
  simp only [field, wordZero, BitVec.getElem_extractLsb', BitVec.getLsbD_append]
  simp [h, BitVec.getLsbD_eq_getElem]

/-- The fill byte of W0. -/
@[simp] theorem field_wordZero_value (op : Byte) (a b c d : Bool) (m : BitVec 2) (v p : Byte) :
    field (wordZero op a b c d m v p) 16 8 = v := by
  ext i hi
  have h : i < 8 := hi
  simp only [field, wordZero, BitVec.getElem_extractLsb', BitVec.getLsbD_append]
  repeat rw [if_neg (by omega)]
  rw [if_pos (by omega), ← BitVec.getLsbD_eq_getElem]
  congr 1
  omega

/-- The bits per pixel of W0. -/
@[simp] theorem field_wordZero_bpp (op : Byte) (a b c d : Bool) (m : BitVec 2) (v p : Byte) :
    field (wordZero op a b c d m v p) 24 8 = p := by
  ext i hi
  have h : i < 8 := hi
  simp only [field, wordZero, BitVec.getElem_extractLsb', BitVec.getLsbD_append]
  repeat rw [if_neg (by omega)]
  rw [← BitVec.getLsbD_eq_getElem]
  congr 1
  omega

/-- The mode of W0. -/
@[simp] theorem field_wordZero_mode (op : Byte) (a b c d : Bool) (m : BitVec 2) (v p : Byte) :
    field (wordZero op a b c d m v p) 12 2 = m := by
  ext i hi
  have h : i < 2 := hi
  simp only [field, wordZero, BitVec.getElem_extractLsb', BitVec.getLsbD_append]
  repeat rw [if_neg (by omega)]
  rw [if_pos (by omega), ← BitVec.getLsbD_eq_getElem]
  congr 1
  omega

/-- The flag `invert` of W0. -/
@[simp] theorem flag_wordZero_invert (op : Byte) (a b c d : Bool) (m : BitVec 2) (v p : Byte) :
    flag (wordZero op a b c d m v p) 8 = a := by
  simp only [flag, wordZero, BitVec.getLsbD_append]
  simp

/-- The flag `mirror_y` of W0. -/
@[simp] theorem flag_wordZero_mirrorY (op : Byte) (a b c d : Bool) (m : BitVec 2) (v p : Byte) :
    flag (wordZero op a b c d m v p) 9 = b := by
  simp only [flag, wordZero, BitVec.getLsbD_append]
  simp

/-- The flag `slow` of W0. -/
@[simp] theorem flag_wordZero_slow (op : Byte) (a b c d : Bool) (m : BitVec 2) (v p : Byte) :
    flag (wordZero op a b c d m v p) 10 = c := by
  simp only [flag, wordZero, BitVec.getLsbD_append]
  simp

/-- The flag `partial` of W0. -/
@[simp] theorem flag_wordZero_onlyPart (op : Byte) (a b c d : Bool) (m : BitVec 2) (v p : Byte) :
    flag (wordZero op a b c d m v p) 11 = d := by
  simp only [flag, wordZero, BitVec.getLsbD_append]
  simp

/-- The low field of a word of two fields. -/
@[simp] theorem field_twoHalves_low (l h : Half) : field (twoHalves l h) 0 16 = l := by
  ext i hi
  have h : i < 16 := hi
  simp only [field, twoHalves, BitVec.getElem_extractLsb', BitVec.getLsbD_append]
  simp [h, BitVec.getLsbD_eq_getElem]

/-- The high field of a word of two fields. -/
@[simp] theorem field_twoHalves_high (l h : Half) : field (twoHalves l h) 16 16 = h := by
  ext i hi
  have h : i < 16 := hi
  simp only [field, twoHalves, BitVec.getElem_extractLsb', BitVec.getLsbD_append]
  rw [if_neg (by omega), ← BitVec.getLsbD_eq_getElem]
  congr 1
  omega

/-- A refresh mode's 2-bit encoding names it (10_state.md R11). -/
@[simp] theorem refreshMode_ofBits_toBits (m : RefreshMode) : RefreshMode.ofBits m.toBits = m := by
  cases m <;> rfl

/-! ### Command codes -/

/-- The scan mode's operand byte names it. -/
@[simp] theorem scanMode_ofByte_toByte (m : ScanMode) : ScanMode.ofByte m.toByte = some m := by
  cases m <;> rfl

/-- A row sent low byte first is put together again (20_memory.md R35). -/
@[simp] theorem row_halves (v : Half) : (v.extractLsb' 8 8 ++ v.extractLsb' 0 8 : Half) = v := by
  ext i hi
  simp only [BitVec.getElem_append, BitVec.getElem_extractLsb']
  split
  · simp [BitVec.getLsbD_eq_getElem, *]
  · rw [show 8 + (i - 8) = i by omega, BitVec.getLsbD_eq_getElem]

/-- Masking the target bit off a command code whose bit 7 is clear gives the code back (R58). -/
theorem masked_code (code : Byte) (h : code.msb = false) (t : Target) : (code ||| t.bit) &&& 0x7F = code := by
  ext i hi
  have hi' : i < 8 := hi
  cases t
  · simp [Target.bit]
    interval_cases i <;> simp_all [BitVec.msb_eq_getLsbD_last]
  · simp [Target.bit]
    interval_cases i <;> simp_all [BitVec.msb_eq_getLsbD_last]

/-- Bit 7 of a command code is its target (R58). -/
theorem target_of_code (code : Byte) (h : code.msb = false) (t : Target) : Target.ofCode (code ||| t.bit) = t := by
  cases t
  · simp [Target.ofCode, Target.bit, h]
  · simp only [Target.ofCode, Target.bit, BitVec.msb_or, h, Bool.false_or]
    rfl

end Sys2Proof
end

