-- ==== Sys2Proof/Laws/State.lean ====
section
/-! SUPPORT. What each update of the state leaves in each field: one lemma per field per update, true by rfl. -/

namespace Sys2Proof.Machine

/-! ### `emit` -/

@[simp] theorem emit_st (s : State) (es : List Event) : (s.emit es).st = s.st := rfl
@[simp] theorem emit_engine (s : State) (es : List Event) : (s.emit es).engine = s.engine := rfl
@[simp] theorem emit_latch (s : State) (es : List Event) : (s.emit es).latch = s.latch := rfl
@[simp] theorem emit_status (s : State) (es : List Event) : (s.emit es).status = s.status := rfl
@[simp] theorem emit_done (s : State) (es : List Event) : (s.emit es).done = s.done := rfl
@[simp] theorem emit_events (s : State) (es : List Event) : (s.emit es).events = s.events ++ es := rfl
@[simp] theorem emit_cfg (s : State) (es : List Event) : (s.emit es).cfg = s.cfg := rfl
@[simp] theorem emit_srcFast (s : State) (es : List Event) : (s.emit es).srcFast = s.srcFast := rfl
@[simp] theorem emit_srcSlow (s : State) (es : List Event) : (s.emit es).srcSlow = s.srcSlow := rfl
@[simp] theorem emit_port (s : State) (es : List Event) : (s.emit es).port = s.port := rfl
@[simp] theorem emit_busyInputs (s : State) (es : List Event) : (s.emit es).busyInputs = s.busyInputs := rfl
@[simp] theorem emit_draws (s : State) (es : List Event) : (s.emit es).draws = s.draws := rfl
@[simp] theorem emit_epoch (s : State) (es : List Event) : (s.emit es).epoch = s.epoch := rfl

/-! ### `withSt` -/

@[simp] theorem withSt_st (s : State) (st : DcpState) : (s.withSt st).st = st := rfl
@[simp] theorem withSt_engine (s : State) (st : DcpState) : (s.withSt st).engine = s.engine := rfl
@[simp] theorem withSt_latch (s : State) (st : DcpState) : (s.withSt st).latch = s.latch := rfl
@[simp] theorem withSt_status (s : State) (st : DcpState) : (s.withSt st).status = s.status := rfl
@[simp] theorem withSt_done (s : State) (st : DcpState) : (s.withSt st).done = s.done := rfl
@[simp] theorem withSt_events (s : State) (st : DcpState) : (s.withSt st).events = s.events := rfl
@[simp] theorem withSt_cfg (s : State) (st : DcpState) : (s.withSt st).cfg = s.cfg := rfl
@[simp] theorem withSt_srcFast (s : State) (st : DcpState) : (s.withSt st).srcFast = s.srcFast := rfl
@[simp] theorem withSt_srcSlow (s : State) (st : DcpState) : (s.withSt st).srcSlow = s.srcSlow := rfl
@[simp] theorem withSt_port (s : State) (st : DcpState) : (s.withSt st).port = s.port := rfl
@[simp] theorem withSt_busyInputs (s : State) (st : DcpState) : (s.withSt st).busyInputs = s.busyInputs := rfl
@[simp] theorem withSt_draws (s : State) (st : DcpState) : (s.withSt st).draws = s.draws := rfl
@[simp] theorem withSt_epoch (s : State) (st : DcpState) : (s.withSt st).epoch = s.epoch := rfl

/-! ### `setPower` -/

@[simp] theorem setPower_st (s : State) (on : Bool) : (s.setPower on).st = { s.st with powerIsOn := on } := rfl
@[simp] theorem setPower_engine (s : State) (on : Bool) : (s.setPower on).engine = s.engine := rfl
@[simp] theorem setPower_latch (s : State) (on : Bool) : (s.setPower on).latch = s.latch := rfl
@[simp] theorem setPower_status (s : State) (on : Bool) : (s.setPower on).status = s.status := rfl
@[simp] theorem setPower_done (s : State) (on : Bool) : (s.setPower on).done = s.done := rfl
@[simp] theorem setPower_events (s : State) (on : Bool) : (s.setPower on).events = s.events := rfl
@[simp] theorem setPower_cfg (s : State) (on : Bool) : (s.setPower on).cfg = s.cfg := rfl
@[simp] theorem setPower_srcFast (s : State) (on : Bool) : (s.setPower on).srcFast = s.srcFast := rfl
@[simp] theorem setPower_srcSlow (s : State) (on : Bool) : (s.setPower on).srcSlow = s.srcSlow := rfl
@[simp] theorem setPower_port (s : State) (on : Bool) : (s.setPower on).port = s.port := rfl
@[simp] theorem setPower_busyInputs (s : State) (on : Bool) : (s.setPower on).busyInputs = s.busyInputs := rfl
@[simp] theorem setPower_draws (s : State) (on : Bool) : (s.setPower on).draws = s.draws := rfl
@[simp] theorem setPower_epoch (s : State) (on : Bool) : (s.setPower on).epoch = s.epoch := rfl

/-! ### `start` -/

@[simp] theorem start_st (s : State) : (s.start).st = s.st := rfl
@[simp] theorem start_engine (s : State) : (s.start).engine = .running := rfl
@[simp] theorem start_latch (s : State) : (s.start).latch = s.latch := rfl
@[simp] theorem start_status (s : State) : (s.start).status = 0 := rfl
@[simp] theorem start_done (s : State) : (s.start).done = false := rfl
@[simp] theorem start_events (s : State) : (s.start).events = [] := rfl
@[simp] theorem start_cfg (s : State) : (s.start).cfg = s.cfg := rfl
@[simp] theorem start_srcFast (s : State) : (s.start).srcFast = s.srcFast := rfl
@[simp] theorem start_srcSlow (s : State) : (s.start).srcSlow = s.srcSlow := rfl
@[simp] theorem start_port (s : State) : (s.start).port = s.port := rfl
@[simp] theorem start_busyInputs (s : State) : (s.start).busyInputs = s.busyInputs := rfl
@[simp] theorem start_draws (s : State) : (s.start).draws = s.draws := rfl
@[simp] theorem start_epoch (s : State) : (s.start).epoch = s.epoch := rfl

/-! ### `complete` -/

@[simp] theorem complete_st (s : State) (code : StatusCode) : (s.complete code).st = s.st := rfl
@[simp] theorem complete_engine (s : State) (code : StatusCode) : (s.complete code).engine = .idle := rfl
@[simp] theorem complete_latch (s : State) (code : StatusCode) : (s.complete code).latch = s.latch := rfl
@[simp] theorem complete_status (s : State) (code : StatusCode) : (s.complete code).status = s.status ||| code.toByte := rfl
@[simp] theorem complete_done (s : State) (code : StatusCode) : (s.complete code).done = true := rfl
@[simp] theorem complete_events (s : State) (code : StatusCode) : (s.complete code).events = s.events := rfl
@[simp] theorem complete_cfg (s : State) (code : StatusCode) : (s.complete code).cfg = s.cfg := rfl
@[simp] theorem complete_srcFast (s : State) (code : StatusCode) : (s.complete code).srcFast = s.srcFast := rfl
@[simp] theorem complete_srcSlow (s : State) (code : StatusCode) : (s.complete code).srcSlow = s.srcSlow := rfl
@[simp] theorem complete_port (s : State) (code : StatusCode) : (s.complete code).port = s.port := rfl
@[simp] theorem complete_busyInputs (s : State) (code : StatusCode) : (s.complete code).busyInputs = s.busyInputs := rfl
@[simp] theorem complete_draws (s : State) (code : StatusCode) : (s.complete code).draws = s.draws := rfl
@[simp] theorem complete_epoch (s : State) (code : StatusCode) : (s.complete code).epoch = s.epoch + 1 := rfl

/-! ### `drive` -/

@[simp] theorem drive_st (s : State) (es : List Event) : (s.drive es).st = s.st := rfl
@[simp] theorem drive_engine (s : State) (es : List Event) : (s.drive es).engine = s.engine := rfl
@[simp] theorem drive_latch (s : State) (es : List Event) : (s.drive es).latch = s.latch := rfl
@[simp] theorem drive_status (s : State) (es : List Event) : (s.drive es).status = s.status := rfl
@[simp] theorem drive_done (s : State) (es : List Event) : (s.drive es).done = s.done := rfl
@[simp] theorem drive_events (s : State) (es : List Event) : (s.drive es).events = es := rfl
@[simp] theorem drive_cfg (s : State) (es : List Event) : (s.drive es).cfg = s.cfg := rfl
@[simp] theorem drive_srcFast (s : State) (es : List Event) : (s.drive es).srcFast = s.srcFast := rfl
@[simp] theorem drive_srcSlow (s : State) (es : List Event) : (s.drive es).srcSlow = s.srcSlow := rfl
@[simp] theorem drive_port (s : State) (es : List Event) : (s.drive es).port = s.port := rfl
@[simp] theorem drive_busyInputs (s : State) (es : List Event) : (s.drive es).busyInputs = s.busyInputs := rfl
@[simp] theorem drive_draws (s : State) (es : List Event) : (s.drive es).draws = s.draws := rfl
@[simp] theorem drive_epoch (s : State) (es : List Event) : (s.drive es).epoch = s.epoch := rfl

/-! ### `served` -/

@[simp] theorem served_st (s : State) (rest : List Input) : (s.served rest).st = s.st := rfl
@[simp] theorem served_engine (s : State) (rest : List Input) : (s.served rest).engine = s.engine := rfl
@[simp] theorem served_latch (s : State) (rest : List Input) : (s.served rest).latch = s.latch := rfl
@[simp] theorem served_status (s : State) (rest : List Input) : (s.served rest).status = s.status := rfl
@[simp] theorem served_done (s : State) (rest : List Input) : (s.served rest).done = s.done := rfl
@[simp] theorem served_events (s : State) (rest : List Input) : (s.served rest).events = s.events := rfl
@[simp] theorem served_cfg (s : State) (rest : List Input) : (s.served rest).cfg = s.cfg := rfl
@[simp] theorem served_srcFast (s : State) (rest : List Input) : (s.served rest).srcFast = s.srcFast := rfl
@[simp] theorem served_srcSlow (s : State) (rest : List Input) : (s.served rest).srcSlow = s.srcSlow := rfl
@[simp] theorem served_port (s : State) (rest : List Input) : (s.served rest).port = rest := rfl
@[simp] theorem served_busyInputs (s : State) (rest : List Input) : (s.served rest).busyInputs = s.busyInputs := rfl
@[simp] theorem served_draws (s : State) (rest : List Input) : (s.served rest).draws = s.draws := rfl
@[simp] theorem served_epoch (s : State) (rest : List Input) : (s.served rest).epoch = s.epoch := rfl

/-! ### `applyReset` -/

@[simp] theorem applyReset_st (s : State) : (s.applyReset).st = .afterReset s.cfg.hibernatingAtReset := rfl
@[simp] theorem applyReset_engine (s : State) : (s.applyReset).engine = .idle := rfl
@[simp] theorem applyReset_latch (s : State) : (s.applyReset).latch = ⟨0, 0, 0, 0, 0, 0⟩ := rfl
@[simp] theorem applyReset_status (s : State) : (s.applyReset).status = 0 := rfl
@[simp] theorem applyReset_done (s : State) : (s.applyReset).done = false := rfl
@[simp] theorem applyReset_events (s : State) : (s.applyReset).events = [] := rfl
@[simp] theorem applyReset_cfg (s : State) : (s.applyReset).cfg = s.cfg := rfl
@[simp] theorem applyReset_srcFast (s : State) : (s.applyReset).srcFast = s.srcFast := rfl
@[simp] theorem applyReset_srcSlow (s : State) : (s.applyReset).srcSlow = s.srcSlow := rfl
@[simp] theorem applyReset_port (s : State) : (s.applyReset).port = s.port := rfl
@[simp] theorem applyReset_busyInputs (s : State) : (s.applyReset).busyInputs = s.busyInputs := rfl
@[simp] theorem applyReset_draws (s : State) : (s.applyReset).draws = s.draws := rfl
@[simp] theorem applyReset_epoch (s : State) : (s.applyReset).epoch = s.epoch := rfl

/-! ### `writePlanes` -/

@[simp] theorem writePlanes_st (s : State) (planes : List Plane) (format : Option GreyFormat) (clip : Clip) (src : SourceView) : (s.writePlanes planes format clip src).st = s.st := rfl
@[simp] theorem writePlanes_engine (s : State) (planes : List Plane) (format : Option GreyFormat) (clip : Clip) (src : SourceView) : (s.writePlanes planes format clip src).engine = s.engine := rfl
@[simp] theorem writePlanes_latch (s : State) (planes : List Plane) (format : Option GreyFormat) (clip : Clip) (src : SourceView) : (s.writePlanes planes format clip src).latch = s.latch := rfl
@[simp] theorem writePlanes_status (s : State) (planes : List Plane) (format : Option GreyFormat) (clip : Clip) (src : SourceView) : (s.writePlanes planes format clip src).status = s.status := rfl
@[simp] theorem writePlanes_done (s : State) (planes : List Plane) (format : Option GreyFormat) (clip : Clip) (src : SourceView) : (s.writePlanes planes format clip src).done = s.done := rfl
@[simp] theorem writePlanes_events (s : State) (planes : List Plane) (format : Option GreyFormat) (clip : Clip) (src : SourceView) : (s.writePlanes planes format clip src).events = s.events ++ s.writeEvents planes format clip src := rfl
@[simp] theorem writePlanes_cfg (s : State) (planes : List Plane) (format : Option GreyFormat) (clip : Clip) (src : SourceView) : (s.writePlanes planes format clip src).cfg = s.cfg := rfl
@[simp] theorem writePlanes_srcFast (s : State) (planes : List Plane) (format : Option GreyFormat) (clip : Clip) (src : SourceView) : (s.writePlanes planes format clip src).srcFast = s.srcFast := rfl
@[simp] theorem writePlanes_srcSlow (s : State) (planes : List Plane) (format : Option GreyFormat) (clip : Clip) (src : SourceView) : (s.writePlanes planes format clip src).srcSlow = s.srcSlow := rfl
@[simp] theorem writePlanes_port (s : State) (planes : List Plane) (format : Option GreyFormat) (clip : Clip) (src : SourceView) : (s.writePlanes planes format clip src).port = s.port := rfl
@[simp] theorem writePlanes_busyInputs (s : State) (planes : List Plane) (format : Option GreyFormat) (clip : Clip) (src : SourceView) : (s.writePlanes planes format clip src).busyInputs = s.busyInputs := rfl
@[simp] theorem writePlanes_draws (s : State) (planes : List Plane) (format : Option GreyFormat) (clip : Clip) (src : SourceView) : (s.writePlanes planes format clip src).draws = s.draws := rfl
@[simp] theorem writePlanes_epoch (s : State) (planes : List Plane) (format : Option GreyFormat) (clip : Clip) (src : SourceView) : (s.writePlanes planes format clip src).epoch = s.epoch := rfl

/-! ### `fillPlanes` -/

@[simp] theorem fillPlanes_st (s : State) (planes : List Plane) (value : Byte) : (s.fillPlanes planes value).st = s.st := rfl
@[simp] theorem fillPlanes_engine (s : State) (planes : List Plane) (value : Byte) : (s.fillPlanes planes value).engine = s.engine := rfl
@[simp] theorem fillPlanes_latch (s : State) (planes : List Plane) (value : Byte) : (s.fillPlanes planes value).latch = s.latch := rfl
@[simp] theorem fillPlanes_status (s : State) (planes : List Plane) (value : Byte) : (s.fillPlanes planes value).status = s.status := rfl
@[simp] theorem fillPlanes_done (s : State) (planes : List Plane) (value : Byte) : (s.fillPlanes planes value).done = s.done := rfl
@[simp] theorem fillPlanes_events (s : State) (planes : List Plane) (value : Byte) : (s.fillPlanes planes value).events = s.events ++ fillEvents s.cfg planes value := rfl
@[simp] theorem fillPlanes_cfg (s : State) (planes : List Plane) (value : Byte) : (s.fillPlanes planes value).cfg = s.cfg := rfl
@[simp] theorem fillPlanes_srcFast (s : State) (planes : List Plane) (value : Byte) : (s.fillPlanes planes value).srcFast = s.srcFast := rfl
@[simp] theorem fillPlanes_srcSlow (s : State) (planes : List Plane) (value : Byte) : (s.fillPlanes planes value).srcSlow = s.srcSlow := rfl
@[simp] theorem fillPlanes_port (s : State) (planes : List Plane) (value : Byte) : (s.fillPlanes planes value).port = s.port := rfl
@[simp] theorem fillPlanes_busyInputs (s : State) (planes : List Plane) (value : Byte) : (s.fillPlanes planes value).busyInputs = s.busyInputs := rfl
@[simp] theorem fillPlanes_draws (s : State) (planes : List Plane) (value : Byte) : (s.fillPlanes planes value).draws = s.draws := rfl
@[simp] theorem fillPlanes_epoch (s : State) (planes : List Plane) (value : Byte) : (s.fillPlanes planes value).epoch = s.epoch := rfl

/-! ### `accept`, `present` and `noteTimeout` -/

@[simp] theorem accept_request (s : State) (d : Descriptor) : s.accept (.request d) = { s with latch := d } := rfl
@[simp] theorem accept_command (s : State) (bytes : List Byte) : s.accept (.command bytes) = s := rfl
@[simp] theorem present_port (s : State) (e : Encoded) : (s.present e).port = .submit e :: s.port := rfl
@[simp] theorem present_engine (s : State) (e : Encoded) : (s.present e).engine = .idle := rfl
@[simp] theorem present_cfg (s : State) (e : Encoded) : (s.present e).cfg = s.cfg := rfl
@[simp] theorem noteTimeout_false (s : State) : s.noteTimeout false = s := rfl
@[simp] theorem noteTimeout_true (s : State) : s.noteTimeout true = { s with status := s.status ||| busyTimeoutBit } := rfl

/-! ### The state after reset -/

@[simp] theorem reset_cfg : State.reset.cfg = Config.cfgT := rfl
@[simp] theorem reset_port : State.reset.port = [] := rfl
@[simp] theorem reset_engine : State.reset.engine = .idle := rfl
@[simp] theorem reset_memory (space : SourceSpace) : State.reset.memory space = [] := by cases space <;> rfl

end Sys2Proof.Machine
end

