-- ==== Sys2Proof/Laws/Geometry.lean ====
section
/-! SUPPORT. What the pure procedures can answer, said once for each: clipping, alignment, sub-rectangles, the geometry of the
image operations (40_partitioner.md, 44_write_ops.md), and the bytes of a sub-rectangle (42_pixel_packer.md). -/

namespace Sys2Proof.Machine

/-! ### The partitioner -/

/-- ClipToPanel answers a rectangle exactly when some of it is left, and then this one (R71). -/
theorem clipToPanel_eq_some {c : Cfg} {r : Rect} {clip : Clip} :
    clipToPanel c r = some clip ↔
      0 < min (r.x + r.w) (panelWidth c) - max r.x 0 ∧ 0 < min (r.y + r.h) (panelHeight c) - max r.y 0 ∧
      clip = ⟨⟨max r.x 0, max r.y 0, min (r.x + r.w) (panelWidth c) - max r.x 0,
        min (r.y + r.h) (panelHeight c) - max r.y 0⟩, max r.x 0 - r.x, max r.y 0 - r.y⟩ := by
  unfold clipToPanel
  dsimp only
  split
  · simp
    omega
  · rw [Option.some.injEq]
    constructor
    · intro h
      exact ⟨by omega, by omega, h.symm⟩
    · intro h
      exact h.2.2.symm

/-- ClipToPanel answers EMPTY when nothing is left (R71). -/
theorem clipToPanel_eq_none {c : Cfg} {r : Rect} :
    clipToPanel c r = none ↔
      min (r.x + r.w) (panelWidth c) - max r.x 0 ≤ 0 ∨ min (r.y + r.h) (panelHeight c) - max r.y 0 ≤ 0 := by
  unfold clipToPanel
  dsimp only
  split <;> simp_all

/-- AlignRegion answers a region exactly when the rectangle is not empty and some of it is on the panel (R72). -/
theorem alignRegion_ne_none {c : Cfg} {r : Rect} :
    alignRegion c r ≠ none ↔
      0 < r.w ∧ 0 < r.h ∧ 0 < min (r.x + r.w) (panelWidth c) - max r.x 0 ∧
      0 < min (r.y + r.h) (panelHeight c) - max r.y 0 := by
  unfold alignRegion
  dsimp only
  split
  · simp
    omega
  · split
    · simp
      omega
    · simp
      omega

/-- What a quadrant's sub-rectangle is, when there is one (R74). -/
theorem subRectOf_eq_some {c : Cfg} {clip : Clip} {q : Quadrant} {sub : SubRect} :
    subRectOf c clip q = some sub ↔
      max clip.rect.x (q.xRange c).1 < min (clip.rect.x + clip.rect.w) (q.xRange c).2 ∧
      max clip.rect.y (q.yRange c).1 < min (clip.rect.y + clip.rect.h) (q.yRange c).2 ∧
      sub = ⟨q.target, q.scan,
        (localOrigin c q.target (max clip.rect.x (q.xRange c).1) (max clip.rect.y (q.yRange c).1)
          (min (clip.rect.x + clip.rect.w) (q.xRange c).2) (min (clip.rect.y + clip.rect.h) (q.yRange c).2)).1,
        (localOrigin c q.target (max clip.rect.x (q.xRange c).1) (max clip.rect.y (q.yRange c).1)
          (min (clip.rect.x + clip.rect.w) (q.xRange c).2) (min (clip.rect.y + clip.rect.h) (q.yRange c).2)).2,
        min (clip.rect.x + clip.rect.w) (q.xRange c).2 - max clip.rect.x (q.xRange c).1,
        min (clip.rect.y + clip.rect.h) (q.yRange c).2 - max clip.rect.y (q.yRange c).1,
        clip.dx + (max clip.rect.x (q.xRange c).1 - clip.rect.x),
        clip.dy + (max clip.rect.y (q.yRange c).1 - clip.rect.y)⟩ := by
  unfold subRectOf
  dsimp only
  split
  · simp
    omega
  · rw [Option.some.injEq]
    constructor
    · intro h
      exact ⟨by omega, by omega, h.symm⟩
    · intro h
      exact h.2.2.symm

/-- A sub-rectangle of a partition is the one of some quadrant. -/
theorem mem_partition {c : Cfg} {clip : Clip} {sub : SubRect} :
    sub ∈ partition c clip ↔ ∃ q : Quadrant, subRectOf c clip q = some sub := by
  simp only [partition, List.mem_filterMap]
  constructor
  · rintro ⟨q, -, h⟩
    exact ⟨q, h⟩
  · rintro ⟨q, h⟩
    exact ⟨q, by cases q <;> decide, h⟩

/-! ### The geometry of the image operations -/

/-- The geometry of a whole-bitmap operation that is not refused (R137, R141). -/
theorem planImage_eq_ok {c : Cfg} {bpp : Int} {b : BitmapArgs} {args : RectArgs} {plan : WritePlan} :
    planImage c bpp b args = .ok plan ↔
      0 < (rectOf args).w ∧ 0 < (rectOf args).h ∧ ∃ clip, clipToPanel c (alignWrite (rectOf args)) = some clip ∧
        plan = ⟨clip, ⟨spaceOf b.slow, b.base, bpp, cdiv ((rectOf args).w * bpp) 8, (rectOf args).h, 0, 0, b.invert,
          b.mirrorY⟩, rectOf args⟩ := by
  unfold planImage
  dsimp only
  split
  · simp
    omega
  · cases clipToPanel c (alignWrite (rectOf args)) with
    | none => simp
    | some clip =>
      simp only [Except.ok.injEq, Option.some.injEq]
      constructor
      · intro h
        exact ⟨by omega, by omega, clip, rfl, h.symm⟩
      · rintro ⟨-, -, _, rfl, h⟩
        exact h.symm

/-- A whole-bitmap operation that is refused is refused for its geometry (R151). -/
theorem planImage_error {c : Cfg} {bpp : Int} {b : BitmapArgs} {args : RectArgs} {code : StatusCode}
    (h : planImage c bpp b args = .error code) : code = .noopGeometry := by
  unfold planImage at h
  dsimp only at h
  split at h
  · simpa using h.symm
  · split at h
    · simpa using h.symm
    · simp at h

/-- The rectangle of a part operation limited to its bitmap (R139, R142). -/
def limitedRect (align : Int) (p : PartArgs) (args : RectArgs) : Rect :=
  ⟨(rectOf args).x, (rectOf args).y,
    min (rectOf args).w (sext16 p.wBitmap - (sext16 p.xPart - sext16 p.xPart % align)),
    min (rectOf args).h (sext16 p.hBitmap - sext16 p.yPart)⟩

/-- The geometry of a part operation that is not refused (R139, R142). -/
theorem planPart_eq_ok {c : Cfg} {bpp align : Int} {b : BitmapArgs} {p : PartArgs} {args : RectArgs} {plan : WritePlan} :
    planPart c bpp align b p args = .ok plan ↔
      0 < sext16 p.wBitmap ∧ 0 < sext16 p.hBitmap ∧ 0 < (rectOf args).w ∧ 0 < (rectOf args).h ∧
      0 ≤ sext16 p.xPart ∧ sext16 p.xPart < sext16 p.wBitmap ∧ 0 ≤ sext16 p.yPart ∧ sext16 p.yPart < sext16 p.hBitmap ∧
      ∃ clip, clipToPanel c (alignWrite (limitedRect align p args)) = some clip ∧
        plan = ⟨clip, ⟨spaceOf b.slow, b.base, bpp, cdiv (sext16 p.wBitmap * bpp) 8, sext16 p.hBitmap,
          sext16 p.xPart - sext16 p.xPart % align, sext16 p.yPart, b.invert, b.mirrorY⟩, limitedRect align p args⟩ := by
  unfold planPart
  dsimp only
  split
  · simp
    omega
  · split
    · simp
      omega
    · split
      · simp
        omega
      · change (match clipToPanel c (alignWrite (limitedRect align p args)) with
          | none => _
          | some clip => _) = _ ↔ _
        cases clipToPanel c (alignWrite (limitedRect align p args)) with
        | none => simp
        | some clip =>
          simp only [Except.ok.injEq, Option.some.injEq]
          constructor
          · intro h
            exact ⟨by omega, by omega, by omega, by omega, by omega, by omega, by omega, by omega, clip, rfl, h.symm⟩
          · rintro ⟨-, -, -, -, -, -, -, -, _, rfl, h⟩
            exact h.symm

/-- A part operation that is refused is refused for its geometry (R151). -/
theorem planPart_error {c : Cfg} {bpp align : Int} {b : BitmapArgs} {p : PartArgs} {args : RectArgs} {code : StatusCode}
    (h : planPart c bpp align b p args = .error code) : code = .noopGeometry := by
  unfold planPart at h
  dsimp only at h
  split at h
  · simpa using h.symm
  · split at h
    · simpa using h.symm
    · split at h
      · simpa using h.symm
      · split at h
        · simpa using h.symm
        · simp at h

/-! ### The bytes of a sub-rectangle -/

/-- How many bytes a sub-rectangle has (41_ram_window.md R92). -/
theorem subBytes_length (sub : SubRect) (byte : Nat → Nat → Byte) :
    (subBytes sub byte).length = sub.h.toNat * (sub.w / 8).toNat := by
  simp [subBytes, List.length_flatMap]

/-- Rows of equal length: byte `j` of row `i` of a list of rows. -/
theorem flatMap_rows_getElem? {n : Nat} (m : Nat) (byte : Nat → Nat → Byte) (i j : Nat) (hi : i < m) (hj : j < n) :
    ((List.range m).flatMap fun i => (List.range n).map fun j => byte i j)[i * n + j]? = some (byte i j) := by
  induction m generalizing i byte with
  | zero => omega
  | succ m ih =>
    rw [List.range_succ_eq_map, List.flatMap_cons, List.flatMap_map]
    cases i with
    | zero =>
      rw [List.getElem?_append_left (by simp; omega)]
      simp [hj]
    | succ i =>
      rw [List.getElem?_append_right (by simp; nlinarith)]
      have := ih (fun i => byte (i + 1)) i (by omega)
      simp only [List.length_map, List.length_range]
      rw [show (i + 1) * n + j - n = i * n + j by rw [Nat.succ_mul]; omega]
      exact this

/-- Byte `j` of row `i` of a sub-rectangle (R92). -/
theorem subBytes_getElem? (sub : SubRect) (byte : Nat → Nat → Byte) (i j : Nat) (hi : i < sub.h.toNat)
    (hj : j < (sub.w / 8).toNat) : (subBytes sub byte)[i * (sub.w / 8).toNat + j]? = some (byte i j) :=
  flatMap_rows_getElem? _ byte i j hi hj

/-- A source byte inside the bitmap's extent that the host has provided (20_memory.md R31). -/
theorem sourceByte_provided {s : State} {src : SourceView} {idx : Int} {b : Byte} (hi : idx < src.extent)
    (hb : Memory.read? (s.memory src.space) (src.address idx) = some b) : s.sourceByte src idx = b := by
  simp [State.sourceByte, State.memRead, hi, hb]

end Sys2Proof.Machine
end

