-- ==== Sys2Proof/Laws/Memory.lean ====
section
/-! SUPPORT. Source memory: a read after a write, and the canonical form kept by every memory operation. -/

namespace Sys2Proof.Machine

/-- Reading the address just written gives the byte written. -/
@[simp] theorem read_write_same (m : Memory) (a : Nat) (b : Byte) : Memory.read? (Memory.write m a b) a = some b := by
  induction m with
  | nil => simp [Memory.write, Memory.read?]
  | cons head rest ih =>
    obtain ⟨k, v⟩ := head
    simp only [Memory.write]
    split
    · simp [Memory.read?]
    · split
      · simp [Memory.read?]
      · simp [Memory.read?, *]

/-- Reading any other address gives what it gave before. -/
theorem read_write_other (m : Memory) {a a' : Nat} (b : Byte) (h : a' ≠ a) :
    Memory.read? (Memory.write m a b) a' = Memory.read? m a' := by
  induction m with
  | nil => simp [Memory.write, Memory.read?, h]
  | cons head rest ih =>
    obtain ⟨k, v⟩ := head
    simp only [Memory.write]
    split
    · simp [Memory.read?, h]
    · split
      · rename_i hk
        simp [Memory.read?, ← hk, h]
      · simp [Memory.read?, ih]

/-- A write above a lower bound keeps the addresses rising from that bound. -/
theorem rising_write {bound low : Nat} (m : Memory) {a : Nat} (b : Byte) (hlow : low ≤ a) (ha : a < bound)
    (hm : Memory.risingFrom bound low m = true) : Memory.risingFrom bound low (Memory.write m a b) = true := by
  induction m generalizing low with
  | nil => simp [Memory.write, Memory.risingFrom, hlow, ha]
  | cons head rest ih =>
    obtain ⟨k, v⟩ := head
    simp only [Memory.risingFrom, Bool.and_eq_true, decide_eq_true_eq] at hm
    obtain ⟨⟨hk, hkb⟩, hrest⟩ := hm
    simp only [Memory.write]
    split
    · rename_i hak
      simp [Memory.risingFrom, hlow, ha, hkb, hrest, Nat.succ_le_of_lt hak]
    · split
      · rename_i hak
        subst hak
        simp [Memory.risingFrom, hlow, ha, hrest]
      · rename_i h1 h2
        have : k + 1 ≤ a := by omega
        simp [Memory.risingFrom, hk, hkb, ih this hrest]

/-- A write of a 32-bit address keeps the canonical form. -/
theorem write_wf {m : Memory} (hm : Memory.wf m = true) (a : Word) (b : Byte) :
    Memory.wf (Memory.write m a.toNat b) = true :=
  rising_write m b (Nat.zero_le _) a.isLt hm

/-- The host's store keeps the canonical form of both spaces. -/
theorem hostStore_wf (s : State) (space space' : SourceSpace) (a : Word) (b : Byte)
    (h : Memory.wf (s.memory space') = true) : Memory.wf ((s.hostStore space a b).memory space') = true := by
  cases space <;> cases space' <;> first | exact h | exact write_wf h a b

/-- Both memories of the reset state are in canonical form. -/
theorem reset_memory_wf (space : SourceSpace) : Memory.wf (State.reset.memory space) = true := by
  cases space <;> rfl

/-- What the host stores is what a read of that space and address gives. -/
theorem hostStore_read (s : State) (space : SourceSpace) (a : Word) (b : Byte) :
    Memory.read? ((s.hostStore space a b).memory space) a.toNat = some b := by
  cases space <;> simp [State.hostStore, State.memory]

/-- A store of the host leaves every other byte of both spaces. -/
theorem hostStore_read_other (s : State) {space space' : SourceSpace} (a : Word) {a' : Nat} (b : Byte)
    (h : space' ≠ space ∨ a' ≠ a.toNat) :
    Memory.read? ((s.hostStore space a b).memory space') a' = Memory.read? (s.memory space') a' := by
  cases space <;> cases space' <;> simp_all [State.hostStore, State.memory, read_write_other]

end Sys2Proof.Machine
end

