-- ==== Sys2Proof/Laws/Ops.lean ====
section
/-! SUPPORT. What the shared operations of the refresh machine and of the writes can do, said once for each: the seven fields
they leave and the events they emit, in closed form. A busy-wait's answer reaches the status and the model's answer fields
only (43_refresh_fsm.md R112). -/

namespace Sys2Proof.Machine

/-! ### Busy-waits -/

@[simp] theorem waitCount_nil : waitCount [] = 0 := rfl
@[simp] theorem waitCount_append (es es' : List Event) : waitCount (es ++ es') = waitCount es + waitCount es' :=
  List.countP_append ..
@[simp] theorem waitCount_wait (ms : Nat) (es : List Event) : waitCount (.wait ms :: es) = waitCount es + 1 := by
  simp [waitCount, List.countP_cons, isWait]

/-- An event that is no busy-wait does not count. -/
theorem waitCount_cons {e : Event} (h : isWait e = false) (es : List Event) : waitCount (e :: es) = waitCount es := by
  simp [waitCount, h]

/-- A command and its parameters hold no busy-wait. -/
@[simp] theorem waitCount_commandEvents (code : Byte) (ps : List Byte) : waitCount (commandEvents code ps) = 0 := by
  simp [waitCount, commandEvents, isWait]

/-- After `n` answers, answer number `k` is the one that was number `n + k`. -/
theorem answerAt_after (s : State) (n k : Nat) (st : DcpState) (es : List Event) (status : Byte) :
    ({ s with
      st := st, events := es, status := status,
      busyInputs := s.busyInputs.drop n, draws := s.draws + (n - s.busyInputs.length) } : State).answerAt k
      = s.answerAt (n + k) := by
  simp only [State.answerAt, List.getElem?_drop, List.length_drop]
  rcases h : s.busyInputs[n + k]? with _ | ⟨_ | _⟩
  · have hl : s.busyInputs.length ≤ n + k := by simpa using h
    exact congrArg Config.freeBusyTimesOut (by omega)
  · rfl
  · rfl

/-- One of `n + m` answers is a timeout if one of the first `n` or of the `m` that follow is. -/
theorem timesOut_add (s : State) (n m : Nat) :
    s.timesOut (n + m) = (s.timesOut n || (List.range m).any fun k => s.answerAt (n + k)) := by
  simp [State.timesOut, List.range_add, Function.comp_def]

/-! ### What a body does -/

/-- The status bits after answers of which one may have been a timeout (R112). -/
def noted (timedOut : Bool) (status : Byte) : Byte := if timedOut then status ||| busyTimeoutBit else status

/-- Bit 7 is sticky. -/
theorem noted_noted (a b : Bool) (status : Byte) : noted b (noted a status) = noted (a || b) status := by
  cases a <;> cases b <;> simp [noted, BitVec.or_assoc]

/-- `s` after a body that leaves the seven fields `st` and emits `es`: the answers of as many busy-waits as `es` holds are
taken, and bit 7 of the status is set if one of them was `timed_out`. Nothing else changes. -/
def State.ran (s : State) (st : DcpState) (es : List Event) : State :=
  { s with
    st := st
    events := s.events ++ es
    busyInputs := s.busyInputs.drop (waitCount es)
    draws := s.draws + (waitCount es - s.busyInputs.length)
    status := noted (s.timesOut (waitCount es)) s.status }

/-- `t` is `s` after a body that leaves the seven fields `st` and emits `es`. -/
structure Runs (s t : State) (st : DcpState) (es : List Event) : Prop where
  eq : t = s.ran st es

namespace Runs

variable {s t u : State} {st st' : DcpState} {es es' : List Event}

theorem hst (h : Runs s t st es) : t.st = st := by rw [h.eq]; rfl
theorem hevents (h : Runs s t st es) : t.events = s.events ++ es := by rw [h.eq]; rfl
theorem hcfg (h : Runs s t st es) : t.cfg = s.cfg := by rw [h.eq]; rfl
theorem hengine (h : Runs s t st es) : t.engine = s.engine := by rw [h.eq]; rfl
theorem hlatch (h : Runs s t st es) : t.latch = s.latch := by rw [h.eq]; rfl
theorem hdone (h : Runs s t st es) : t.done = s.done := by rw [h.eq]; rfl
theorem hport (h : Runs s t st es) : t.port = s.port := by rw [h.eq]; rfl
theorem hepoch (h : Runs s t st es) : t.epoch = s.epoch := by rw [h.eq]; rfl
theorem hsrcFast (h : Runs s t st es) : t.srcFast = s.srcFast := by rw [h.eq]; rfl
theorem hsrcSlow (h : Runs s t st es) : t.srcSlow = s.srcSlow := by rw [h.eq]; rfl
theorem hbusyInputs (h : Runs s t st es) : t.busyInputs = s.busyInputs.drop (waitCount es) := by rw [h.eq]; rfl
theorem hdraws (h : Runs s t st es) : t.draws = s.draws + (waitCount es - s.busyInputs.length) := by rw [h.eq]; rfl
theorem hstatus (h : Runs s t st es) : t.status = noted (s.timesOut (waitCount es)) s.status := by rw [h.eq]; rfl

theorem hmemory (h : Runs s t st es) (space : SourceSpace) : t.memory space = s.memory space := by
  cases space
  · exact h.hsrcFast
  · exact h.hsrcSlow

/-- The status keeps its value or gains bit 7. -/
theorem status (h : Runs s t st es) : t.status = s.status ∨ t.status = s.status ||| busyTimeoutBit := by
  rw [h.hstatus, noted]
  split <;> simp

/-- Nothing has run. -/
theorem refl (s : State) : Runs s s s.st [] := ⟨by simp [State.ran, noted, State.timesOut]⟩

/-- One body after another. -/
theorem trans (h : Runs s t st es) (h' : Runs t u st' es') : Runs s u st' (es ++ es') := by
  have ha : ∀ k, t.answerAt k = s.answerAt (waitCount es + k) := fun k => by
    rw [h.eq, State.ran]
    exact answerAt_after ..
  have ht : t.timesOut (waitCount es') = (List.range (waitCount es')).any fun k => s.answerAt (waitCount es + k) := by
    rw [State.timesOut, show t.answerAt = _ from funext ha]
  refine ⟨?_⟩
  rw [h'.eq]
  unfold State.ran
  rw [h.hengine, h.hlatch, h.hdone, h.hevents, h.hcfg, h.hsrcFast, h.hsrcSlow, h.hport, h.hepoch,
    h.hbusyInputs, h.hdraws, h.hstatus, noted_noted, ht, ← timesOut_add, List.append_assoc, List.drop_drop,
    waitCount_append, List.length_drop,
    show s.draws + (waitCount es - s.busyInputs.length) + (waitCount es' - (s.busyInputs.length - waitCount es))
      = s.draws + (waitCount es + waitCount es' - s.busyInputs.length) by omega]

/-- Emitting events that hold no busy-wait. -/
theorem emit (s : State) (es : List Event) (h : waitCount es = 0) : Runs s (s.emit es) s.st es :=
  ⟨by simp [State.ran, h, noted, State.timesOut, State.emit]⟩

/-- Writing the seven fields. -/
theorem withSt (s : State) (st : DcpState) : Runs s (s.withSt st) st [] :=
  ⟨by simp [State.ran, noted, State.timesOut, State.withSt]⟩

/-- The seven fields rewritten after a body. -/
theorem thenSt (h : Runs s t st es) (st' : DcpState) : Runs s (t.withSt st') st' es := by
  simpa using h.trans (withSt t st')

end Runs

/-- WaitBusy emits its event, takes one answer and notes a timeout (R112). -/
theorem waitBusy_runs (s : State) (ms : Nat) : Runs s (s.waitBusy ms) s.st [.wait ms] := by
  refine ⟨?_⟩
  have hn : waitCount [.wait ms] = 1 := rfl
  have h1 : s.timesOut 1 = s.answerAt 0 := by simp [State.timesOut]
  unfold State.waitBusy State.takeBusyAnswer State.ran
  rw [hn, h1]
  cases s with
  | mk st engine latch status done events cfg srcFast srcSlow port busyInputs draws epoch =>
    rcases busyInputs with _ | ⟨_ | _, rest⟩
    · simp [State.emit, State.noteTimeout, State.answerAt, noted]
      rfl
    · simp [State.emit, State.noteTimeout, State.answerAt, noted]
    · simp [State.emit, State.noteTimeout, State.answerAt, noted]

/-- An item of a sequence emits its events (30_encoding.md R61). -/
theorem emitItem_runs (s : State) (item : SeqItem) : Runs s (s.emitItem item) s.st (itemEvents s.cfg item) := by
  cases item with
  | command code ps => exact Runs.emit s _ (waitCount_commandEvents _ _)
  | lut code => exact Runs.emit s _ (waitCount_commandEvents _ _)
  | busyWait ms => exact waitBusy_runs s ms
  | pause ms => exact Runs.emit s _ rfl

/-- EmitSeq emits its items' events in order and writes no state (R111). -/
theorem emitSeq_runs (s : State) (items : List SeqItem) : Runs s (s.emitSeq items) s.st (seqEvents s.cfg items) := by
  induction items generalizing s with
  | nil => exact Runs.refl s
  | cons item rest ih =>
    have h1 := emitItem_runs s item
    have h2 := ih (s.emitItem item)
    rw [h1.hst, h1.hcfg] at h2
    exact h1.trans h2

/-- The wake of an initialization (R113, R114). -/
theorem wake_runs (s : State) :
    Runs s s.wake { s.st with hibernating := false } (wakeEvents s.cfg s.st.hibernating) := by
  unfold State.wake wakeEvents
  split
  · exact (Runs.emit s _ rfl).thenSt _
  · exact Runs.withSt s _

/-- InitPlain (R113). -/
theorem initPlain_runs (s : State) :
    Runs s s.initPlain (afterInitPlain s.st) (initPlainEvents s.cfg s.st.hibernating) := by
  have h1 := wake_runs s
  have h2 := emitSeq_runs s.wake s.cfg.seqInitPlain
  rw [h1.hst, h1.hcfg] at h2
  have h := (h1.trans h2).thenSt (afterInitPlain s.st)
  unfold State.initPlain
  simp only [(h1.trans h2).hst]
  exact h

/-- InitGrey (R114). -/
theorem initGrey_runs (s : State) :
    Runs s s.initGrey (afterInitGrey s.st) (initGreyEvents s.cfg s.st.hibernating) := by
  have h1 := wake_runs s
  have h2 := emitSeq_runs s.wake s.cfg.seqInitGrey
  rw [h1.hst, h1.hcfg] at h2
  have h := (h1.trans h2).thenSt (afterInitGrey s.st)
  unfold State.initGrey
  simp only [(h1.trans h2).hst]
  exact h

/-- EnsureInitPlain (R115). -/
theorem ensureInitPlain_runs (s : State) :
    Runs s s.ensureInitPlain (afterEnsurePlain s.st) (ensurePlainEvents s.cfg s.st) := by
  unfold State.ensureInitPlain afterEnsurePlain ensurePlainEvents
  split
  · exact Runs.refl s
  · exact initPlain_runs s

/-- EnsureInitGrey (R115). -/
theorem ensureInitGrey_runs (s : State) :
    Runs s s.ensureInitGrey (afterEnsureGrey s.st) (ensureGreyEvents s.cfg s.st) := by
  unfold State.ensureInitGrey afterEnsureGrey ensureGreyEvents
  split
  · exact Runs.refl s
  · exact initGrey_runs s

/-- PowerOn from a panel without power (R116). -/
theorem powerOn_runs (s : State) (h : s.st.powerIsOn = false) :
    Runs s s.powerOn { s.st with powerIsOn := true } (powerOnEvents s.cfg) := by
  have h1 := emitSeq_runs s s.cfg.seqPowerOn
  have h2 := h1.trans (waitBusy_runs _ s.cfg.powerOnMs)
  have h3 := h2.thenSt { s.st with powerIsOn := true }
  unfold State.powerOn
  simp only [h, Bool.false_eq_true, if_false, State.setPower]
  rw [h2.hst, h1.hst]
  exact h3

/-- PowerOff from a panel without power does nothing (R117). -/
theorem powerOff_eq (s : State) (h : s.st.powerIsOn = false) : s.powerOff = s := by
  unfold State.powerOff
  simp only [h, Bool.false_eq_true, if_false, State.setPower, State.withSt]
  rw [← h]

/-- An update: PowerOn, a sequence, its wait, and the power flag cleared (R118, R119). -/
theorem update_runs (s : State) (h : s.st.powerIsOn = false) (items : List SeqItem) (ms : Nat) :
    Runs s (((s.powerOn.emitSeq items).waitBusy ms).setPower false) s.st
      (powerOnEvents s.cfg ++ seqEvents s.cfg items ++ [.wait ms]) := by
  have h1 := powerOn_runs s h
  have h2 := emitSeq_runs s.powerOn items
  rw [h1.hst, h1.hcfg] at h2
  have h3 := waitBusy_runs (s.powerOn.emitSeq items) ms
  rw [h2.hst] at h3
  have h4 := ((h1.trans h2).trans h3).thenSt s.st
  unfold State.setPower
  rw [h3.hst]
  rw [show ({ ({ s.st with powerIsOn := true } : DcpState) with powerIsOn := false } : DcpState) = s.st by
    rw [← h]]
  exact h4

/-- UpdateFull (R118). -/
theorem updateFull_runs (s : State) (h : s.st.powerIsOn = false) :
    Runs s s.updateFull s.st (updateFullEvents s.cfg) :=
  update_runs s h _ _

/-- UpdateGrey (R119). -/
theorem updateGrey_runs (s : State) (h : s.st.powerIsOn = false) :
    Runs s s.updateGrey s.st (updateGreyEvents s.cfg) :=
  update_runs s h _ _

/-- UpdatePart (R120). -/
theorem updatePart_runs (s : State) (h : s.st.powerIsOn = false) :
    Runs s s.updatePart s.st (updatePartEvents s.cfg) := by
  have h1 := Runs.emit s (partialUpdateEvents s.cfg) (by simp [partialUpdateEvents])
  have h2 := waitBusy_runs (s.emit (partialUpdateEvents s.cfg)) s.cfg.partialMs
  rw [h1.hst] at h2
  have h3 := (h1.trans h2).thenSt s.st
  unfold State.updatePart State.setPower
  rw [h2.hst, show ({ s.st with powerIsOn := false } : DcpState) = s.st by rw [← h]]
  have he : partialUpdateEvents s.cfg ++ [.wait s.cfg.partialMs] = updatePartEvents s.cfg := by
    simp [partialUpdateEvents, updatePartEvents, commandEvents]
  rw [he] at h3
  exact h3

/-- EnsureInitAny and the re-initialization of the two modes, as one test of the state (R121, R128). -/
theorem readyForRefresh_runs (s : State) :
    Runs s s.ensureInitAny.reinitialize (if refreshInitializes s.st then afterInitPlain s.st else s.st)
      (if refreshInitializes s.st then initPlainEvents s.cfg s.st.hibernating else []) := by
  have hi := initPlain_runs s
  unfold State.ensureInitAny DcpState.uninitialized
  cases hu : (!s.st.displayInitialized && !s.st.grayscaleInitialized)
  · simp only [Bool.false_eq_true, if_false]
    unfold State.reinitialize
    have hr : refreshInitializes s.st = modeReinitializes s.st.refreshMode := by
      simp only [refreshInitializes, hu]
      cases s.st.refreshMode <;> rfl
    rw [hr]
    split
    · exact hi
    · exact Runs.refl s
  · have hr : refreshInitializes s.st = true := by simp [refreshInitializes, hu]
    rw [hr]
    simp only [if_true]
    unfold State.reinitialize
    rw [hi.hst]
    exact hi

/-- FullRefresh from a state without power (R121, R128). -/
theorem fullRefresh_runs (s : State) (h : s.st.powerIsOn = false) :
    Runs s s.fullRefresh (afterFullRefresh s.st) (fullRefreshEvents s.cfg s.st) := by
  have h1 := readyForRefresh_runs s
  unfold State.fullRefresh afterFullRefresh fullRefreshEvents
  cases hr : refreshInitializes s.st
  · simp only [hr, Bool.false_eq_true, if_false] at h1 ⊢
    unfold State.updateByMode
    rw [h1.hst]
    split
    · have h2 := updateGrey_runs s.ensureInitAny.reinitialize (by rw [h1.hst]; exact h)
      rw [h1.hst, h1.hcfg] at h2
      have h3 := (h1.trans h2).thenSt { s.st with initialRefreshPending := false }
      rw [h2.hst]
      exact h3
    · have h2 := updateFull_runs s.ensureInitAny.reinitialize (by rw [h1.hst]; exact h)
      rw [h1.hst, h1.hcfg] at h2
      have h3 := (h1.trans h2).thenSt { s.st with initialRefreshPending := false }
      rw [h2.hst]
      exact h3
  · simp only [hr, if_true] at h1 ⊢
    unfold State.updateByMode
    rw [h1.hst]
    have h2 := updateFull_runs s.ensureInitAny.reinitialize (by rw [h1.hst]; exact h)
    rw [h1.hst, h1.hcfg] at h2
    have h3 := (h1.trans h2).thenSt { afterInitPlain s.st with initialRefreshPending := false }
    rw [if_neg (by simp [afterInitPlain]), h2.hst]
    exact h3

/-- The partial update with the initialization `fast_refresh` asks for, in a state no upgrade applies to (R123). -/
theorem partialRefresh_runs (s : State) (h : s.st.powerIsOn = false) (hf : s.st.refreshMode ≠ .forcedFullRefresh) :
    Runs s s.partialRefresh (if refreshInitializes s.st then afterInitPlain s.st else s.st)
      ((if refreshInitializes s.st then initPlainEvents s.cfg s.st.hibernating else []) ++ updatePartEvents s.cfg) := by
  have h1 := readyForRefresh_runs s
  have he : (if s.ensureInitAny.st.refreshMode = .fastRefresh then s.ensureInitAny.initPlain else s.ensureInitAny)
      = s.ensureInitAny.reinitialize := by
    have hm : s.ensureInitAny.st.refreshMode ≠ .forcedFullRefresh := by
      unfold State.ensureInitAny
      split
      · rw [(initPlain_runs s).hst]
        simp [afterInitPlain]
      · exact hf
    unfold State.reinitialize
    cases hq : s.ensureInitAny.st.refreshMode <;> simp_all [modeReinitializes]
  unfold State.partialRefresh
  simp only [he]
  have hp : s.ensureInitAny.reinitialize.st.powerIsOn = false := by
    rw [h1.hst]
    split
    · exact h
    · exact h
  have h2 := updatePart_runs _ hp
  rw [h1.hst, h1.hcfg] at h2
  exact h1.trans h2

/-- The body of REFRESH_REGION when its aligned region is not empty (R123, R128). -/
theorem regionRefresh_runs (s : State) (h : s.st.powerIsOn = false) (r : Rect) (hr : alignRegion s.cfg r ≠ none) :
    Runs s (s.regionRefresh r).1 (afterRegionRefresh s.st) (regionRefreshEvents s.cfg s.st)
      ∧ (s.regionRefresh r).2 = .ok := by
  unfold State.regionRefresh afterRegionRefresh regionRefreshEvents DcpState.upgradesRegion
  split
  · exact ⟨fullRefresh_runs s h, rfl⟩
  · rename_i hu
    cases ha : alignRegion s.cfg r with
    | none => exact absurd ha hr
    | some _ =>
      refine ⟨?_, rfl⟩
      have hf : s.st.refreshMode ≠ .forcedFullRefresh := by
        intro hq
        simp [hq] at hu
      have hp := partialRefresh_runs s h hf
      exact hp

/-- The body of REFRESH_REGION when an upgrade applies, whatever the region (R123). -/
theorem regionRefresh_upgraded (s : State) (r : Rect) (h : s.st.upgradesRegion = true) :
    s.regionRefresh r = (s.fullRefresh, .ok) := by
  simp [State.regionRefresh, h]

/-- The body of REFRESH_REGION when no upgrade applies and the region is empty (R123 d). -/
theorem regionRefresh_empty (s : State) (r : Rect) (h : s.st.upgradesRegion = false)
    (hr : alignRegion s.cfg r = none) : s.regionRefresh r = (s, .noopGeometry) := by
  simp [State.regionRefresh, h, hr]

end Sys2Proof.Machine
end

