-- ==== Sys2Proof/Laws/PerInstr.lean ====
section
/-! SUPPORT. The families of statements made instruction by instruction. `OpcodeField`: the leading byte of an instruction's encoding
is the code of its row of spec/opcode_table.json (30_encoding.md R51, R57, R58). -/

namespace Sys2Proof.Laws

/-- The byte the table's `match` column is about: bits 7:0 of W0, or the command byte. -/
def leadingByte : Encoded → Option Byte
  | .request d => some (field d.w0 0 8)
  | .command bytes => bytes.head?

/-- The code of an instruction's row, the target bit included for the targeted commands. -/
def tableCode (c : Cfg) : Instr → Byte
  | .clearScreen _ => 0x01
  | .writeScreenBuffer _ => 0x02
  | .writeScreenBufferAgain _ => 0x03
  | .writeImage _ _ => 0x04
  | .writeImageAgain _ _ => 0x05
  | .writeImagePart _ _ _ => 0x06
  | .writeImagePartAgain _ _ _ => 0x07
  | .writeImage4G _ _ _ => 0x08
  | .writeImagePart4G _ _ _ _ => 0x09
  | .drawImage _ _ => 0x0A
  | .drawImagePart _ _ _ => 0x0B
  | .drawImage4G _ _ _ => 0x0C
  | .drawImagePart4G _ _ _ _ => 0x0D
  | .refresh _ => 0x0E
  | .refreshRegion _ => 0x0F
  | .powerOff => 0x10
  | .hibernate => 0x11
  | .setRefreshMode _ => 0x12
  | .reserved opcode => opcode
  | .cmdSoftStart _ => 0x0C
  | .cmdDeepSleep => 0x10
  | .cmdSoftwareReset => 0x12
  | .cmdTemperature18 _ => 0x18
  | .cmdTemperature1A _ => 0x1A
  | .cmdMasterActivation => 0x20
  | .cmdUpdateControl1 => 0x21
  | .cmdUpdateControl2 _ => 0x22
  | .cmdWriteCurrent t => 0x24 ||| t.bit
  | .cmdWritePrevious t => 0x26 ||| t.bit
  | .cmdLutLoad => 0x32
  | .cmdBorder _ => 0x3C
  | .cmdSetXRange t _ _ => 0x44 ||| t.bit
  | .cmdSetYRange t _ _ => 0x45 ||| t.bit
  | .cmdSetXCounter t _ => 0x4E ||| t.bit
  | .cmdSetYCounter t _ => 0x4F ||| t.bit
  | .cmdEntryMode t _ => c.cmdEntryMode ||| t.bit

/-- The leading byte of the encoding is the row's code. -/
def OpcodeField.Statement (i : Instr) : Prop := ∀ c : Cfg, leadingByte (encode c i) = some (tableCode c i)

/-- The leading byte of a request is its opcode. -/
theorem leadingByte_wordZero (op : Byte) (a b c d : Bool) (m : BitVec 2) (v p : Byte) (w1 w2 w3 w4 w5 : Word) :
    leadingByte (.request ⟨wordZero op a b c d m v p, w1, w2, w3, w4, w5⟩) = some op := by
  simp [leadingByte]

theorem OpcodeField.clearScreen (value : Byte) : OpcodeField.Statement (.clearScreen value) := fun _ => leadingByte_wordZero ..
theorem OpcodeField.writeScreenBuffer (value : Byte) : OpcodeField.Statement (.writeScreenBuffer value) := fun _ => leadingByte_wordZero ..
theorem OpcodeField.writeScreenBufferAgain (value : Byte) : OpcodeField.Statement (.writeScreenBufferAgain value) := fun _ => leadingByte_wordZero ..
theorem OpcodeField.writeImage (bitmap : BitmapArgs) (rect : RectArgs) : OpcodeField.Statement (.writeImage bitmap rect) := fun _ => leadingByte_wordZero ..
theorem OpcodeField.writeImageAgain (bitmap : BitmapArgs) (rect : RectArgs) : OpcodeField.Statement (.writeImageAgain bitmap rect) := fun _ => leadingByte_wordZero ..
theorem OpcodeField.writeImagePart (bitmap : BitmapArgs) (part : PartArgs) (rect : RectArgs) : OpcodeField.Statement (.writeImagePart bitmap part rect) := fun _ => leadingByte_wordZero ..
theorem OpcodeField.writeImagePartAgain (bitmap : BitmapArgs) (part : PartArgs) (rect : RectArgs) : OpcodeField.Statement (.writeImagePartAgain bitmap part rect) := fun _ => leadingByte_wordZero ..
theorem OpcodeField.writeImage4G (bpp : Byte) (bitmap : BitmapArgs) (rect : RectArgs) : OpcodeField.Statement (.writeImage4G bpp bitmap rect) := fun _ => leadingByte_wordZero ..
theorem OpcodeField.writeImagePart4G (bpp : Byte) (bitmap : BitmapArgs) (part : PartArgs) (rect : RectArgs) : OpcodeField.Statement (.writeImagePart4G bpp bitmap part rect) := fun _ => leadingByte_wordZero ..
theorem OpcodeField.drawImage (bitmap : BitmapArgs) (rect : RectArgs) : OpcodeField.Statement (.drawImage bitmap rect) := fun _ => leadingByte_wordZero ..
theorem OpcodeField.drawImagePart (bitmap : BitmapArgs) (part : PartArgs) (rect : RectArgs) : OpcodeField.Statement (.drawImagePart bitmap part rect) := fun _ => leadingByte_wordZero ..
theorem OpcodeField.drawImage4G (bpp : Byte) (bitmap : BitmapArgs) (rect : RectArgs) : OpcodeField.Statement (.drawImage4G bpp bitmap rect) := fun _ => leadingByte_wordZero ..
theorem OpcodeField.drawImagePart4G (bpp : Byte) (bitmap : BitmapArgs) (part : PartArgs) (rect : RectArgs) : OpcodeField.Statement (.drawImagePart4G bpp bitmap part rect) := fun _ => leadingByte_wordZero ..
theorem OpcodeField.refresh (onlyPart : Bool) : OpcodeField.Statement (.refresh onlyPart) := fun _ => leadingByte_wordZero ..
theorem OpcodeField.refreshRegion (rect : RectArgs) : OpcodeField.Statement (.refreshRegion rect) := fun _ => leadingByte_wordZero ..
theorem OpcodeField.powerOff : OpcodeField.Statement (.powerOff) := fun _ => leadingByte_wordZero ..
theorem OpcodeField.hibernate : OpcodeField.Statement (.hibernate) := fun _ => leadingByte_wordZero ..
theorem OpcodeField.setRefreshMode (mode : RefreshMode) : OpcodeField.Statement (.setRefreshMode mode) := fun _ => leadingByte_wordZero ..
theorem OpcodeField.reserved (opcode : Byte) : OpcodeField.Statement (.reserved opcode) := fun _ => leadingByte_wordZero ..
theorem OpcodeField.cmdSoftStart (parameters : List Byte) : OpcodeField.Statement (.cmdSoftStart parameters) := fun _ => rfl
theorem OpcodeField.cmdDeepSleep : OpcodeField.Statement (.cmdDeepSleep) := fun _ => rfl
theorem OpcodeField.cmdSoftwareReset : OpcodeField.Statement (.cmdSoftwareReset) := fun _ => rfl
theorem OpcodeField.cmdTemperature18 (parameters : List Byte) : OpcodeField.Statement (.cmdTemperature18 parameters) := fun _ => rfl
theorem OpcodeField.cmdTemperature1A (parameters : List Byte) : OpcodeField.Statement (.cmdTemperature1A parameters) := fun _ => rfl
theorem OpcodeField.cmdMasterActivation : OpcodeField.Statement (.cmdMasterActivation) := fun _ => rfl
theorem OpcodeField.cmdUpdateControl1 : OpcodeField.Statement (.cmdUpdateControl1) := fun _ => rfl
theorem OpcodeField.cmdUpdateControl2 (parameters : List Byte) : OpcodeField.Statement (.cmdUpdateControl2 parameters) := fun _ => rfl
theorem OpcodeField.cmdWriteCurrent (target : Target) : OpcodeField.Statement (.cmdWriteCurrent target) := fun _ => rfl
theorem OpcodeField.cmdWritePrevious (target : Target) : OpcodeField.Statement (.cmdWritePrevious target) := fun _ => rfl
theorem OpcodeField.cmdLutLoad : OpcodeField.Statement (.cmdLutLoad) := fun _ => rfl
theorem OpcodeField.cmdBorder (parameters : List Byte) : OpcodeField.Statement (.cmdBorder parameters) := fun _ => rfl
theorem OpcodeField.cmdSetXRange (target : Target) (first last : Byte) : OpcodeField.Statement (.cmdSetXRange target first last) := fun _ => rfl
theorem OpcodeField.cmdSetYRange (target : Target) (first last : Half) : OpcodeField.Statement (.cmdSetYRange target first last) := fun _ => rfl
theorem OpcodeField.cmdSetXCounter (target : Target) (start : Byte) : OpcodeField.Statement (.cmdSetXCounter target start) := fun _ => rfl
theorem OpcodeField.cmdSetYCounter (target : Target) (start : Half) : OpcodeField.Statement (.cmdSetYCounter target start) := fun _ => rfl
theorem OpcodeField.cmdEntryMode (target : Target) (scan : ScanMode) : OpcodeField.Statement (.cmdEntryMode target scan) := fun _ => rfl

end Sys2Proof.Laws
end

