-- ==== Sys2Proof/Laws/Placed.lean ====
section
/-! SUPPORT. The geometry and the loop as the statements spell them (Safety.lean), against the definitions the writes call: one
lemma for each form (44_write_ops.md R131, R137, R139, R141, R142). -/

namespace Sys2Proof.Machine

open Sys2Proof.Safety

/-- A request that is placed has this plan (R137, R141). -/
theorem planImage_of_placed {c : Cfg} {bpp : Int} {b : BitmapArgs} {r : RectArgs} {clip : Clip} {src : SourceView}
    (h : ImagePlaced c bpp b r clip src) : planImage c bpp b r = .ok ⟨clip, src, rectOf r⟩ := by
  obtain ⟨hw, hh, hc, h1, h2, h3, h4, h5, h6, h7, h8, h9⟩ := h
  refine planImage_eq_ok.2 ⟨hw, hh, clip, hc, ?_⟩
  obtain ⟨⟩ := src
  simp_all [spaceOf, cdiv, rectOf, sext16]
  omega

/-- A part request that is placed has this plan (R139, R142). -/
theorem planPart_of_placed {c : Cfg} {bpp align : Int} {b : BitmapArgs} {p : PartArgs} {r : RectArgs} {wl hl : Int}
    {clip : Clip} {src : SourceView} (h : PartPlaced c bpp align b p r wl hl clip src) :
    planPart c bpp align b p r = .ok ⟨clip, src, ⟨(rectOf r).x, (rectOf r).y, wl, hl⟩⟩ := by
  obtain ⟨hb, he, hx, hy, hwl, hhl, hc, h1, h2, h3, h4, h5, h6, h7, h8, h9⟩ := h
  subst hwl hhl
  refine planPart_eq_ok.2 ⟨hb.1, hb.2, he.1, he.2, hx.1, hx.2, hy.1, hy.2, clip, hc, ?_⟩
  obtain ⟨⟩ := src
  simp_all [spaceOf, cdiv, rectOf, sext16, limitedRect]
  omega

/-- The plane command's byte with the target bit (30_encoding.md R57, R58). -/
theorem planeCommand_eq (plane : Plane) (t : Target) : planeCommand plane t = .cmd (planeByte plane t) := by
  cases plane <;> cases t <;> rfl

/-- A plane block, event by event (R131). -/
theorem planeBlock_eq (c : Cfg) (plane : Plane) (sub : SubRect) (bytes : List Byte) :
    planeBlock c plane sub bytes
      = setWindow c sub.target sub.scan sub.lx sub.ly sub.w sub.h ++ [.cmd (planeByte plane sub.target), .startTransfer]
        ++ bytes.map .bulk ++ [.endTransfer] := by
  simp [planeBlock, planeCommand_eq, transfer, windowOf]

end Sys2Proof.Machine
end

