-- ==== Sys2Proof/Laws/Write.lean ====
section
/-! SUPPORT. What the bodies of the fill, write and draw operations can do, said once for each, and the wrapper of a whole
operation (44_write_ops.md R130 to R146). -/

namespace Sys2Proof.Machine

/-! ### What the pixel bytes depend on -/

/-- Two states whose configuration, source memory and operation number agree read the same bytes. -/
theorem sourceByte_congr {s t : State} (hm : ∀ space, t.memory space = s.memory space) (he : t.epoch = s.epoch)
    (src : SourceView) (idx : Int) : t.sourceByte src idx = s.sourceByte src idx := by
  simp [State.sourceByte, State.memRead, hm, he]

/-- They therefore write the same planes. -/
theorem writeEvents_congr {s t : State} (hc : t.cfg = s.cfg) (hm : ∀ space, t.memory space = s.memory space)
    (he : t.epoch = s.epoch) (planes : List Plane) (format : Option GreyFormat) (clip : Clip) (src : SourceView) :
    t.writeEvents planes format clip src = s.writeEvents planes format clip src := by
  have hb : ∀ i, t.workingByte src i = s.workingByte src i := fun i => by
    simp [State.workingByte, sourceByte_congr hm he]
  have hp : ∀ plane sub, t.planeBytes format src plane sub = s.planeBytes format src plane sub := by
    intro plane sub
    cases format with
    | none => simp [State.planeBytes, State.monoBytes, hb]
    | some f => simp [State.planeBytes, State.greyBytes, State.packGrey, hb, hc]
  simp [State.writeEvents, hp, hc]

/-- A body that has run does not change what the planes are written with. -/
theorem Runs.writeEvents {s t : State} {st : DcpState} {es : List Event} (h : Runs s t st es) (planes : List Plane)
    (format : Option GreyFormat) (clip : Clip) (src : SourceView) :
    t.writeEvents planes format clip src = s.writeEvents planes format clip src :=
  writeEvents_congr h.hcfg h.hmemory h.hepoch planes format clip src

/-! ### The power flag through the closed forms -/

@[simp] theorem afterInitPlain_powerIsOn (st : DcpState) : (afterInitPlain st).powerIsOn = st.powerIsOn := rfl
@[simp] theorem afterInitGrey_powerIsOn (st : DcpState) : (afterInitGrey st).powerIsOn = st.powerIsOn := rfl
@[simp] theorem afterEnsurePlain_powerIsOn (st : DcpState) : (afterEnsurePlain st).powerIsOn = st.powerIsOn := by
  unfold afterEnsurePlain; split <;> rfl
@[simp] theorem afterEnsureGrey_powerIsOn (st : DcpState) : (afterEnsureGrey st).powerIsOn = st.powerIsOn := by
  unfold afterEnsureGrey; split <;> rfl
@[simp] theorem afterFullRefresh_powerIsOn (st : DcpState) : (afterFullRefresh st).powerIsOn = st.powerIsOn := by
  unfold afterFullRefresh; split <;> rfl
@[simp] theorem afterClear_powerIsOn (st : DcpState) : (afterClear st).powerIsOn = st.powerIsOn := by
  simp [afterClear]
@[simp] theorem afterRedirect_powerIsOn (st : DcpState) : (afterRedirect st).powerIsOn = st.powerIsOn := by
  unfold afterRedirect; split <;> simp
@[simp] theorem afterRegionRefresh_powerIsOn (st : DcpState) : (afterRegionRefresh st).powerIsOn = st.powerIsOn := by
  unfold afterRegionRefresh; split
  · simp
  · split <;> rfl

/-! ### The pixel events hold no busy-wait -/

@[simp] theorem waitCount_flatMap {α : Type} (l : List α) (f : α → List Event) :
    waitCount (l.flatMap f) = (l.map fun a => waitCount (f a)).sum := by
  induction l with
  | nil => rfl
  | cons a rest ih => simp [ih]

@[simp] theorem waitCount_transfer (bytes : List Byte) : waitCount (transfer bytes) = 0 := by
  induction bytes with
  | nil => rfl
  | cons b rest ih => simp_all [transfer, waitCount, isWait]

@[simp] theorem waitCount_planeBlock (c : Cfg) (plane : Plane) (sub : SubRect) (bytes : List Byte) :
    waitCount (planeBlock c plane sub bytes) = 0 := by
  simp [planeBlock, windowOf, setWindow, entryModeEvents, xRangeEvents, yRangeEvents, xCounterEvents, yCounterEvents]
  rw [waitCount_cons rfl, waitCount_cons rfl, waitCount_transfer]

@[simp] theorem waitCount_fillEvents (c : Cfg) (planes : List Plane) (value : Byte) :
    waitCount (fillEvents c planes value) = 0 := by
  simp [fillEvents]

@[simp] theorem waitCount_writeEvents (s : State) (planes : List Plane) (format : Option GreyFormat) (clip : Clip)
    (src : SourceView) : waitCount (s.writeEvents planes format clip src) = 0 := by
  simp [State.writeEvents]

/-! ### The bodies -/

/-- ClearScreen from a state without power (R133). -/
theorem clearScreen_runs (s : State) (h : s.st.powerIsOn = false) (value : Byte) :
    Runs s (s.clearScreen value) (afterClear s.st) (clearEvents s.cfg s.st value) := by
  have h1 := ensureInitPlain_runs s
  have h2 := Runs.emit s.ensureInitPlain (fillEvents s.ensureInitPlain.cfg [.previous, .current] value) (by simp)
  rw [h1.hst, h1.hcfg] at h2
  have h12 := h1.trans h2
  have h3 := fullRefresh_runs (s.ensureInitPlain.emit (fillEvents s.cfg [.previous, .current] value))
    (by rw [h12.hst]; simpa using h)
  rw [h12.hst, h12.hcfg] at h3
  have h4 := (h12.trans h3).thenSt (afterClear s.st)
  unfold State.clearScreen State.fillPlanes
  simp only [h1.hcfg, (h12.trans h3).hst]
  exact h4

/-- The initial-write redirect (R130 step 2). -/
theorem redirect_runs (s : State) (h : s.st.powerIsOn = false) (value : Byte) :
    Runs s (s.redirect value) (afterRedirect s.st) (redirectEvents s.cfg s.st value) := by
  unfold State.redirect afterRedirect redirectEvents
  split
  · exact clearScreen_runs s h value
  · exact Runs.refl s

/-- Steps 2 and 3 of a fill or a 1bpp write: the redirect, then EnsureInitPlain. -/
theorem plainReady_runs (s : State) (h : s.st.powerIsOn = false) (value : Byte) :
    Runs s (s.redirect value).ensureInitPlain (afterEnsurePlain (afterRedirect s.st))
      (redirectEvents s.cfg s.st value ++ ensurePlainEvents s.cfg (afterRedirect s.st)) := by
  have h1 := redirect_runs s h value
  have h2 := ensureInitPlain_runs (s.redirect value)
  rw [h1.hst, h1.hcfg] at h2
  exact h1.trans h2

/-- Steps 2 and 3 of a grayscale write: the redirect, then EnsureInitGrey. -/
theorem greyReady_runs (s : State) (h : s.st.powerIsOn = false) (value : Byte) :
    Runs s (s.redirect value).ensureInitGrey (afterEnsureGrey (afterRedirect s.st))
      (redirectEvents s.cfg s.st value ++ ensureGreyEvents s.cfg (afterRedirect s.st)) := by
  have h1 := redirect_runs s h value
  have h2 := ensureInitGrey_runs (s.redirect value)
  rw [h1.hst, h1.hcfg] at h2
  exact h1.trans h2

/-- A fill (R135, R136). -/
theorem fillBody_runs (s : State) (h : s.st.powerIsOn = false) (planes : List Plane) (value : Byte) :
    Runs s (s.fillBody planes value) (afterEnsurePlain (afterRedirect s.st))
      (redirectEvents s.cfg s.st value ++ ensurePlainEvents s.cfg (afterRedirect s.st)
        ++ fillEvents s.cfg planes value) := by
  have h1 := plainReady_runs s h value
  have h2 := Runs.emit (s.redirect value).ensureInitPlain (fillEvents s.cfg planes value) (by simp)
  rw [h1.hst] at h2
  unfold State.fillBody State.fillPlanes
  rw [h1.hcfg]
  exact h1.trans h2

/-- A 1bpp write whose geometry succeeded (R137 to R140). -/
theorem monoBody_runs (s : State) (h : s.st.powerIsOn = false) (planes : List Plane) (plan : WritePlan) :
    Runs s (s.monoBody planes plan) (afterEnsurePlain (afterRedirect s.st))
      (redirectEvents s.cfg s.st s.cfg.initialFill ++ ensurePlainEvents s.cfg (afterRedirect s.st)
        ++ s.writeEvents planes none plan.clip plan.src) := by
  have h1 := plainReady_runs s h s.cfg.initialFill
  have h2 := Runs.emit (s.redirect s.cfg.initialFill).ensureInitPlain (s.writeEvents planes none plan.clip plan.src)
    (by simp)
  rw [h1.hst] at h2
  unfold State.monoBody State.writePlanes
  rw [h1.writeEvents]
  exact h1.trans h2

/-- A grayscale write whose geometry succeeded (R141, R142). -/
theorem greyBody_runs (s : State) (h : s.st.powerIsOn = false) (f : GreyFormat) (plan : WritePlan) :
    Runs s (s.greyBody f plan) (afterEnsureGrey (afterRedirect s.st))
      (redirectEvents s.cfg s.st s.cfg.initialFill ++ ensureGreyEvents s.cfg (afterRedirect s.st)
        ++ s.writeEvents [.previous, .current] (some f) plan.clip plan.src) := by
  have h1 := greyReady_runs s h s.cfg.initialFill
  have h2 := Runs.emit (s.redirect s.cfg.initialFill).ensureInitGrey
    (s.writeEvents [.previous, .current] (some f) plan.clip plan.src) (by simp)
  rw [h1.hst] at h2
  unfold State.greyBody State.writePlanes
  rw [h1.writeEvents]
  exact h1.trans h2

/-! ### A whole operation -/

/-- An operation whose body runs as `Runs` says, as one update of the state. -/
theorem operate_eq {s t : State} {st : DcpState} {es : List Event} {body : State → State × StatusCode}
    {code : StatusCode} (hb : body s.start = (t, code)) (h : Runs s.start t st es) :
    s.operate body = (s.start.ran st es).complete code := by
  simp [State.operate, hb, h.eq]

/-- An operation whose body runs as `Runs` says completes with the body's state, events and code. -/
theorem operate_runs {s t : State} {st : DcpState} {es : List Event} {body : State → State × StatusCode}
    {code : StatusCode} (hb : body s.start = (t, code)) (h : Runs s.start t st es) :
    s.operate body = t.complete code ∧ (s.operate body).st = st ∧ (s.operate body).events = es
      ∧ (s.operate body).cfg = s.cfg ∧ (s.operate body).latch = s.latch ∧ (s.operate body).port = s.port
      ∧ (∀ space, (s.operate body).memory space = s.memory space)
      ∧ (s.operate body).engine = .idle ∧ (s.operate body).done = true
      ∧ (s.operate body).status &&& 0x7F = code.toByte
      ∧ (s.operate body).epoch = s.epoch + 1 := by
  have he : s.operate body = t.complete code := by simp [State.operate, hb]
  rw [he]
  refine ⟨rfl, h.hst, ?_, h.hcfg, h.hlatch, h.hport, ?_, rfl, rfl, ?_, ?_⟩
  · simpa using h.hevents
  · intro space
    have := h.hmemory space
    cases space
    · exact this
    · exact this
  · have hs : t.status = 0 ∨ t.status = busyTimeoutBit := by simpa using h.status
    rcases hs with hs | hs <;> rw [complete_status, hs] <;> cases code <;> decide
  · rw [complete_epoch, h.hepoch, start_epoch]

/-- An operation that does nothing but present its code. -/
theorem operate_nothing {s : State} {body : State → State × StatusCode} {code : StatusCode}
    (hb : body s.start = (s.start, code)) :
    s.operate body = { s with
      engine := .idle, done := true, status := code.toByte, events := [], epoch := s.epoch + 1 } := by
  unfold State.operate
  rw [hb]
  simp [State.start, State.complete]

end Sys2Proof.Machine
end

