-- ==== Sys2Proof/Tests/Slice0.lean ====
section
/-! SUPPORT. The model's own tests: the checks of WellFormed, a word of every constructor, small one-step tests whose expected
results are the vectors of 95_test_vectors.md (named in each comment), and a witness for the hypotheses of every statement. -/

namespace Sys2Proof.Tests

open Sys2Proof.Machine Sys2Proof.Safety

/-! ### Helpers -/

/-- The "initialized device" of 95_test_vectors.md, under `CFG_T`. -/
def ready : State := { State.reset with st := ⟨.fullRefresh, false, true, false, false, false, false⟩ }

/-- A grayscale-initialized device. -/
def greyDevice : State := { State.reset with st := ⟨.greyRefresh, false, false, true, false, false, false⟩ }

/-- Source bytes from a base address. -/
def bytesFrom : Nat → List Byte → Memory
  | _, [] => []
  | a, b :: rest => (a, b) :: bytesFrom (a + 1) rest

/-- A state whose fast source space holds some bytes. -/
def withFast (s : State) (base : Nat) (bytes : List Byte) : State := { s with srcFast := bytesFrom base bytes }

/-- The state an instruction leaves. -/
def run (i : Instr) (s : State) : State :=
  match exec i s with
  | .next t => t
  | .fault _ => s
  | .refused _ => s

/-- The state one step leaves after a request. -/
def request (d : Descriptor) (s : State) : State :=
  match step (s.present (.request d)) with
  | .next t => t
  | .fault _ => s
  | .refused _ => s

/-- The bulk bytes of an event list. -/
def bulkBytes (es : List Event) : List Byte := es.filterMap fun e => match e with
  | .bulk b => some b
  | .cmd _ => none
  | .data _ => none
  | .startTransfer => none
  | .endTransfer => none
  | .wait _ => none
  | .resetLine => none
  | .delay _ => none

/-! ### WellFormed: each check refuses an ill-formed term -/

theorem test_wf_refuses_assigned_opcode_as_reserved : (Instr.reserved 0x12).wf Config.cfgT = false := by decide
theorem test_wf_accepts_reserved_opcode : (Instr.reserved 0x13).wf Config.cfgT = true := by decide
theorem test_wf_refuses_entry_mode_of_another_code :
    (Instr.cmdEntryMode .slave .xIncYInc).wf { Config.cfgT with cmdEntryMode := 0x44 } = false := by decide
theorem test_wf_refuses_entry_mode_with_bit7 :
    (Instr.cmdEntryMode .slave .xIncYInc).wf { Config.cfgT with cmdEntryMode := 0x91 } = false := by decide
theorem test_cfgT_admissible : Config.cfgT.ok = true := by decide
theorem test_cfg_odd_width_refused : { Config.cfgT with width := 24 }.ok = false := by decide

/-! ### Decode: a word of every constructor, from R50, R51, R57, R58 -/

theorem test_decode_clearScreen : decodeRequest ⟨0x00FF0001, 0, 0, 0, 0, 0⟩ = .clearScreen 0xFF := by decide
theorem test_decode_writeScreenBuffer : decodeRequest ⟨0x005A0002, 0, 0, 0, 0, 0⟩ = .writeScreenBuffer 0x5A := by decide
theorem test_decode_writeScreenBufferAgain : decodeRequest ⟨0x00000003, 0, 0, 0, 0, 0⟩ = .writeScreenBufferAgain 0x00 := by decide
theorem test_decode_writeImage : decodeRequest ⟨0x00000704, 0x00001000, 0xFFFEFFF8, 0x00080010, 0, 0⟩ = .writeImage ⟨0x1000, true, true, true⟩ ⟨0xFFF8, 0xFFFE, 16, 8⟩ := by decide
theorem test_decode_writeImageAgain : decodeRequest ⟨0x00000105, 0x00001000, 0, 0x00100010, 0, 0⟩ = .writeImageAgain ⟨0x1000, true, false, false⟩ ⟨0, 0, 16, 16⟩ := by decide
theorem test_decode_writeImagePart : decodeRequest ⟨0x00000006, 0x00001000, 0x00140028, 0x00030008, 0x00020008, 0x00080010⟩ = .writeImagePart ⟨0x1000, false, false, false⟩ ⟨8, 2, 16, 8⟩ ⟨40, 20, 8, 3⟩ := by decide
theorem test_decode_writeImagePartAgain : decodeRequest ⟨0x00000207, 0x00001000, 0x00140028, 0x00030008, 0x00020008, 0x00080010⟩ = .writeImagePartAgain ⟨0x1000, false, true, false⟩ ⟨8, 2, 16, 8⟩ ⟨40, 20, 8, 3⟩ := by decide
theorem test_decode_writeImage4G : decodeRequest ⟨0x04000008, 0x00003000, 0x00000018, 0x00010010, 0, 0⟩ = .writeImage4G 4 ⟨0x3000, false, false, false⟩ ⟨24, 0, 16, 1⟩ := by decide
theorem test_decode_writeImagePart4G : decodeRequest ⟨0x04000009, 0x00003000, 0x00000020, 0x00020008, 0x00000003, 0x00020010⟩ = .writeImagePart4G 4 ⟨0x3000, false, false, false⟩ ⟨3, 0, 16, 2⟩ ⟨32, 0, 8, 2⟩ := by decide
theorem test_decode_drawImage : decodeRequest ⟨0x0000040A, 0x00001000, 0, 0x00100010, 0, 0⟩ = .drawImage ⟨0x1000, false, false, true⟩ ⟨0, 0, 16, 16⟩ := by decide
theorem test_decode_drawImagePart : decodeRequest ⟨0x0000000B, 0x00001000, 0x00140028, 0x00030008, 0x00020008, 0x00080010⟩ = .drawImagePart ⟨0x1000, false, false, false⟩ ⟨8, 2, 16, 8⟩ ⟨40, 20, 8, 3⟩ := by decide
theorem test_decode_drawImage4G : decodeRequest ⟨0x0200000C, 0x00003000, 0, 0x00010008, 0, 0⟩ = .drawImage4G 2 ⟨0x3000, false, false, false⟩ ⟨0, 0, 8, 1⟩ := by decide
theorem test_decode_drawImagePart4G : decodeRequest ⟨0x0800000D, 0x00003000, 0, 0x00010008, 0x00000008, 0x00010010⟩ = .drawImagePart4G 8 ⟨0x3000, false, false, false⟩ ⟨8, 0, 16, 1⟩ ⟨0, 0, 8, 1⟩ := by decide
theorem test_decode_refresh : decodeRequest ⟨0x0000080E, 0, 0, 0, 0, 0⟩ = .refresh true := by decide
theorem test_decode_refreshRegion : decodeRequest ⟨0x0000000F, 0, 0x00000040, 0x00080008, 0, 0⟩ = .refreshRegion ⟨64, 0, 8, 8⟩ := by decide
theorem test_decode_powerOff : decodeRequest ⟨0x0000C010, 0, 0, 0, 0, 0⟩ = .powerOff := by decide
theorem test_decode_hibernate : decodeRequest ⟨0x00000011, 0, 0, 0, 0, 0⟩ = .hibernate := by decide
theorem test_decode_setRefreshMode : decodeRequest ⟨0x00002012, 0, 0, 0, 0, 0⟩ = .setRefreshMode .fastRefresh := by decide
theorem test_decode_reserved : decodeRequest ⟨0xFFFFFFFF, 0, 0, 0, 0, 0⟩ = .reserved 0xFF := by decide
theorem test_decode_reserved_zero : decodeRequest ⟨0, 0, 0, 0, 0, 0⟩ = .reserved 0x00 := by decide
theorem test_decode_cmdSoftStart : decode Config.cfgT (.command [0x0C, 0xAE, 0xC7]) = .ok (.cmdSoftStart [0xAE, 0xC7]) := by rfl
theorem test_decode_cmdDeepSleep : decode Config.cfgT (.command [0x10]) = .ok .cmdDeepSleep := by rfl
theorem test_decode_cmdSoftwareReset : decode Config.cfgT (.command [0x12]) = .ok .cmdSoftwareReset := by rfl
theorem test_decode_cmdTemperature18 : decode Config.cfgT (.command [0x18, 0x80]) = .ok (.cmdTemperature18 [0x80]) := by rfl
theorem test_decode_cmdTemperature1A : decode Config.cfgT (.command [0x1A, 0x5A]) = .ok (.cmdTemperature1A [0x5A]) := by rfl
theorem test_decode_cmdMasterActivation : decode Config.cfgT (.command [0x20]) = .ok .cmdMasterActivation := by rfl
theorem test_decode_cmdUpdateControl1 : decode Config.cfgT (.command [0x21]) = .ok .cmdUpdateControl1 := by rfl
theorem test_decode_cmdUpdateControl2 : decode Config.cfgT (.command [0x22, 0xF7]) = .ok (.cmdUpdateControl2 [0xF7]) := by rfl
theorem test_decode_cmdWriteCurrent : decode Config.cfgT (.command [0xA4]) = .ok (.cmdWriteCurrent .slave) := by rfl
theorem test_decode_cmdWritePrevious : decode Config.cfgT (.command [0x26]) = .ok (.cmdWritePrevious .master) := by rfl
theorem test_decode_cmdLutLoad : decode Config.cfgT (.command [0x32]) = .ok .cmdLutLoad := by rfl
theorem test_decode_cmdBorder : decode Config.cfgT (.command [0x3C, 0x01]) = .ok (.cmdBorder [0x01]) := by rfl
theorem test_decode_cmdSetXRange : decode Config.cfgT (.command [0xC4, 0x01, 0x02]) = .ok (.cmdSetXRange .slave 1 2) := by rfl
theorem test_decode_cmdSetYRange : decode Config.cfgT (.command [0x45, 0x7F, 0x02, 0x40, 0x01]) = .ok (.cmdSetYRange .master 0x027F 0x0140) := by rfl
theorem test_decode_cmdSetXCounter : decode Config.cfgT (.command [0x4E, 0x3B]) = .ok (.cmdSetXCounter .master 0x3B) := by rfl
theorem test_decode_cmdSetYCounter : decode Config.cfgT (.command [0xCF, 0x7F, 0x02]) = .ok (.cmdSetYCounter .slave 0x027F) := by rfl
theorem test_decode_cmdEntryMode : decode Config.cfgT (.command [0x91, 0x03]) = .ok (.cmdEntryMode .slave .xDecYDec) := by rfl
theorem test_decode_refuses_unknown_code : decode Config.cfgT (.command [0x77]) = .error (.unknownCommand 0x77) := by rfl
theorem test_decode_refuses_missing_operand : decode Config.cfgT (.command [0x44, 0x00]) = .error (.badOperands 0x44) := by rfl
theorem test_tableWord_request : decodeTableWord 8 0x0E = some (.refresh false) := by rfl
theorem test_tableWord_command : decodeTableWord 8 0x44 = some (.cmdSetXRange .master 0 0) := by rfl

/-! ### Small steps, from the vectors of 95_test_vectors.md -/

/-- P1 request 1: CLEAR_SCREEN from reset, 684 events and its end state. -/
theorem test_clear_screen_from_reset :
    (request ⟨0x00FF0001, 0, 0, 0, 0, 0⟩ State.reset).events.length = 684 ∧
    (request ⟨0x00FF0001, 0, 0, 0, 0, 0⟩ State.reset).st = ready.st := by decide +kernel

/-- S6: a second CLEAR_SCREEN sends 672 events, 512 of them the fill byte. -/
theorem test_clear_screen_again :
    (run (.clearScreen 0xFF) ready).events.length = 672 ∧
    (run (.clearScreen 0xFF) ready).events.count (.bulk 0xFF) = 512 := by decide +kernel

/-- R135's example: 76 control events and 256 bulk events, the current plane of SLAVE first. -/
theorem test_fill_current :
    (run (.writeScreenBuffer 0x5A) ready).events.length = 76 + 256 ∧
    (run (.writeScreenBuffer 0x5A) ready).events[16]? = some (.cmd 0xA4) := by decide +kernel

/-- R136: the previous plane first, then the current one. -/
theorem test_fill_again :
    (run (.writeScreenBufferAgain 0x5A) ready).events[16]? = some (.cmd 0xA6) ∧
    (run (.writeScreenBufferAgain 0x5A) ready).events.length = 664 := by decide +kernel

/-- S4a: the mirror sends the rows bottom first, in the slave's window. -/
theorem test_write_image_mirrored :
    (request ⟨0x00000204, 0x00001000, 0, 0x00030010, 0, 0⟩
      (withFast ready 0x1000 [0x11, 0x12, 0x21, 0x22, 0x31, 0x32])).events =
      [.cmd 0x91, .data 0x03, .cmd 0xC4, .data 0x00, .data 0x01, .cmd 0xC5, .data 0x00, .data 0x00, .data 0x02, .data 0x00,
        .cmd 0xCE, .data 0x00, .cmd 0xCF, .data 0x00, .data 0x00, .delay 1, .cmd 0xA4, .startTransfer, .bulk 0x31,
        .bulk 0x32, .bulk 0x21, .bulk 0x22, .bulk 0x11, .bulk 0x12, .endTransfer] := by decide +kernel

/-- V42: invert and mirror together. -/
theorem test_write_image_inverted :
    bulkBytes (run (.writeImage ⟨0x1000, true, true, false⟩ ⟨0, 0, 16, 2⟩)
      (withFast ready 0x1000 [0x12, 0x34, 0x56, 0x78])).events = [0xA9, 0x87, 0xED, 0xCB] := by decide +kernel

/-- R138: the same bytes to the previous and then to the current plane. -/
theorem test_write_image_again :
    bulkBytes (run (.writeImageAgain ⟨0x1000, false, false, false⟩ ⟨0, 0, 16, 1⟩)
      (withFast ready 0x1000 [0x12, 0x34])).events = [0x12, 0x34, 0x12, 0x34] := by decide +kernel

/-- R139's example: row i of the part sends source bytes 9, 10, 13, 14, ... -/
theorem test_write_image_part :
    bulkBytes (run (.writeImagePart ⟨0, false, false, false⟩ ⟨8, 2, 32, 8⟩ ⟨0, 0, 16, 4⟩)
      (withFast ready 0 ((List.range 32).map (BitVec.ofNat 8)))).events = [9, 10, 13, 14, 17, 18, 21, 22] := by
  decide +kernel

/-- R140: the part, with the mirror of the whole bitmap. -/
theorem test_write_image_part_again :
    bulkBytes (run (.writeImagePartAgain ⟨0, false, true, false⟩ ⟨0, 0, 8, 2⟩ ⟨0, 0, 8, 1⟩)
      (withFast ready 0 [0xA0, 0xA1])).events = [0xA1, 0xA1] := by decide +kernel

/-- V42: 2bpp, the previous plane 0x63 and then the current plane 0x53. -/
theorem test_write_image_4g :
    bulkBytes (run (.writeImage4G 2 ⟨0x1000, false, false, false⟩ ⟨0, 0, 8, 1⟩)
      (withFast greyDevice 0x1000 [0xC9, 0xF0])).events = [0x63, 0x53] := by decide +kernel

/-- V42: 8bpp inverted. -/
theorem test_write_image_4g_8bpp_inverted :
    bulkBytes (run (.writeImage4G 8 ⟨0x1000, true, false, false⟩ ⟨0, 0, 8, 1⟩)
      (withFast greyDevice 0x1000 [0xFF, 0xFE, 0xA0, 0x9F, 0x01, 0x00, 0x80, 0xC0])).events = [0x88, 0xF3] := by
  decide +kernel

/-- R142's example reads source bytes 1 to 4 of each row: V42's 4bpp bytes placed there. -/
theorem test_write_image_part_4g :
    bulkBytes (run (.writeImagePart4G 4 ⟨0, false, false, false⟩ ⟨3, 0, 16, 1⟩ ⟨32, 0, 8, 1⟩)
      (withFast greyDevice 0 [0x00, 0xF0, 0xA9, 0x1E, 0x5F, 0x00, 0x00, 0x00])).events = [0x64, 0x5A] := by
  decide +kernel

/-- R143: the write block, the nine events of the partial update, the two blocks of the Again write. -/
theorem test_draw_image :
    (run (.drawImage ⟨0x1000, false, false, false⟩ ⟨0, 0, 8, 1⟩) (withFast ready 0x1000 [0x7E])).events.length
      = 20 + 9 + 20 + 20 ∧
    (run (.drawImage ⟨0x1000, false, false, false⟩ ⟨0, 0, 8, 1⟩) (withFast ready 0x1000 [0x7E])).events[28]?
      = some (.wait 450) := by decide +kernel

/-- R144: the same for a part. -/
theorem test_draw_image_part :
    bulkBytes (run (.drawImagePart ⟨0, false, false, false⟩ ⟨8, 0, 16, 1⟩ ⟨0, 0, 8, 1⟩)
      (withFast ready 0 [0x11, 0x22])).events = [0x22, 0x22, 0x22] := by decide +kernel

/-- R145: the two planes, then the grayscale update with Wait(3000). -/
theorem test_draw_image_4g :
    (run (.drawImage4G 2 ⟨0, false, false, false⟩ ⟨0, 0, 8, 1⟩) (withFast greyDevice 0 [0xC9, 0xF0])).events.getLast?
      = some (.wait 3000) := by decide +kernel

/-- R146: from a plain device the grayscale initialization runs first, with the LUT. -/
theorem test_draw_image_part_4g :
    (run (.drawImagePart4G 8 ⟨0, false, false, false⟩ ⟨0, 0, 8, 1⟩ ⟨0, 0, 8, 1⟩)
      (withFast ready 0 [0, 0, 0, 0, 0, 0, 0, 0])).events.take 17 =
      [.cmd 0x12, .wait 100, .cmd 0x18, .data 0x80, .cmd 0x0C, .data 0xAE, .data 0xC7, .data 0xC3, .data 0xC0, .data 0x80,
        .cmd 0x3C, .data 0x00, .cmd 0x32, .data 0x40, .data 0x48, .data 0x80, .data 0x00] := by decide +kernel

/-- V43-1. -/
theorem test_refresh_full :
    (request ⟨0x0000000E, 0, 0, 0, 0, 0⟩ ready).events =
      [.cmd 0x22, .data 0xE0, .cmd 0x20, .wait 100, .cmd 0x22, .data 0xF7, .cmd 0x20, .wait 2200] := by decide +kernel

/-- V43-2. -/
theorem test_refresh_partial :
    (request ⟨0x0000080E, 0, 0, 0, 0, 0⟩ ready).events =
      [.cmd 0x3C, .data 0x80, .cmd 0x21, .data 0x00, .data 0x00, .cmd 0x22, .data 0xFF, .cmd 0x20, .wait 450] := by
  decide +kernel

/-- V43-3: a region outside the panel is a geometry no-op. -/
theorem test_refresh_region_empty :
    (request ⟨0x0000000F, 0, 0x00000040, 0x00080008, 0, 0⟩ ready).status = 0x01 ∧
    (request ⟨0x0000000F, 0, 0x00000040, 0x00080008, 0, 0⟩ ready).events = [] := by decide +kernel

/-- V43-4: the same region from reset is upgraded. -/
theorem test_refresh_region_upgraded :
    (request ⟨0x0000000F, 0, 0x00000040, 0x00080008, 0, 0⟩ State.reset).events.length = 20 ∧
    (request ⟨0x0000000F, 0, 0x00000040, 0x00080008, 0, 0⟩ State.reset).st
      = ⟨.fullRefresh, false, true, false, true, false, false⟩ := by decide +kernel

/-- V43-14. -/
theorem test_power_off :
    (request ⟨0x00000010, 0, 0, 0, 0, 0⟩ ready).events = [] ∧ (request ⟨0x00000010, 0, 0, 0, 0, 0⟩ ready).st = ready.st := by
  decide +kernel

/-- V43-11. -/
theorem test_hibernate :
    (request ⟨0x00000011, 0, 0, 0, 0, 0⟩ ready).events = [.cmd 0x10, .data 0x01] ∧
    (request ⟨0x00000011, 0, 0, 0, 0, 0⟩ ready).st = ⟨.fullRefresh, false, false, false, false, true, false⟩ := by
  decide +kernel

/-- V43-13. -/
theorem test_hibernate_skipped :
    (run .hibernate { ready with cfg := { Config.cfgT with hasResetLine := false } }).status = 0x03 := by decide +kernel

/-- V43-5. -/
theorem test_set_refresh_mode :
    (request ⟨0x00003012, 0, 0, 0, 0, 0⟩ ready).st = { ready.st with refreshMode := .forcedFullRefresh } := by
  decide +kernel

/-- V43-10. -/
theorem test_set_refresh_mode_reserved : (request ⟨0x00001012, 0, 0, 0, 0, 0⟩ ready).status = 0x04 := by decide +kernel

/-- R54: a reserved opcode. -/
theorem test_reserved :
    (request ⟨0x00000013, 0, 0, 0, 0, 0⟩ ready).status = 0x04 ∧ (request ⟨0x00000013, 0, 0, 0, 0, 0⟩ ready).st = ready.st := by
  decide +kernel

/-- The busy timeout of V43-1: `Wait(2200)` timed out, status 0x80 and the same state. -/
theorem test_busy_timeout :
    (run (.refresh false) { ready with busyInputs := [.ready, .timedOut] }).status = 0x80 ∧
    (run (.refresh false) { ready with busyInputs := [.ready, .timedOut] }).st = ready.st := by decide +kernel

/-- V41: a row above 255 uses the high byte, low byte first. -/
theorem test_window_high_rows :
    setWindow { Config.cfgT with width := 960, height := 640 } .master .xDecYDec 0 320 480 320 =
      [.cmd 0x11, .data 0x00, .cmd 0x44, .data 0x3B, .data 0x00, .cmd 0x45, .data 0x7F, .data 0x02, .data 0x40, .data 0x01,
        .cmd 0x4E, .data 0x3B, .cmd 0x4F, .data 0x7F, .data 0x02, .delay 1] := by decide +kernel

/-- R58: the commands SetWindow is made of, one by one, for SLAVE. -/
theorem test_lone_commands :
    (run (.cmdEntryMode .slave .xIncYInc) ready).events = [.cmd 0x91, .data 0x03] ∧
    (run (.cmdSetXRange .slave 0 3) ready).events = [.cmd 0xC4, .data 0x00, .data 0x03] ∧
    (run (.cmdSetYRange .slave 0x10 0x27F) ready).events = [.cmd 0xC5, .data 0x10, .data 0x00, .data 0x7F, .data 0x02] ∧
    (run (.cmdSetXCounter .slave 3) ready).events = [.cmd 0xCE, .data 0x03] ∧
    (run (.cmdSetYCounter .slave 0x27F) ready).events = [.cmd 0xCF, .data 0x7F, .data 0x02] ∧
    (run (.cmdWriteCurrent .slave) ready).events = [.cmd 0xA4] ∧
    (run (.cmdWritePrevious .slave) ready).events = [.cmd 0xA6] := by decide +kernel

/-- R57: the commands without a target. -/
theorem test_plain_commands :
    (run .cmdDeepSleep ready).events = [.cmd 0x10, .data 0x01] ∧
    (run .cmdSoftwareReset ready).events = [.cmd 0x12] ∧
    (run .cmdMasterActivation ready).events = [.cmd 0x20] ∧
    (run .cmdUpdateControl1 ready).events = [.cmd 0x21, .data 0x00, .data 0x00] ∧
    (run (.cmdUpdateControl2 [0xFF]) ready).events = [.cmd 0x22, .data 0xFF] ∧
    (run .cmdLutLoad ready).events = [.cmd 0x32, .data 0x40, .data 0x48, .data 0x80, .data 0x00] ∧
    (run (.cmdBorder [0x80]) ready).events = [.cmd 0x3C, .data 0x80] ∧
    (run (.cmdSoftStart [0xAE]) ready).events = [.cmd 0x0C, .data 0xAE] ∧
    (run (.cmdTemperature18 [0x80]) ready).events = [.cmd 0x18, .data 0x80] ∧
    (run (.cmdTemperature1A [0x5A]) ready).events = [.cmd 0x1A, .data 0x5A] := by decide +kernel

/-- S2: the partition of `(8, 15, 48, 2)`. -/
theorem test_partition_four :
    partition Config.cfgT ⟨⟨8, 15, 48, 2⟩, 0, 0⟩ =
      [⟨.slave, .xIncYInc, 8, 15, 24, 1, 0, 0⟩, ⟨.slave, .xIncYInc, 8, 16, 24, 1, 0, 1⟩,
        ⟨.master, .xDecYDec, 8, 16, 24, 1, 24, 0⟩, ⟨.master, .xDecYDec, 8, 15, 24, 1, 24, 1⟩] := by decide +kernel

/-- V40: AlignRegion `(-5, -5, 6, 6)` and `(31, 15, 2, 2)`. -/
theorem test_align_region :
    alignRegion Config.cfgT ⟨-5, -5, 6, 6⟩ = some ⟨0, 0, 8, 1⟩ ∧
    alignRegion Config.cfgT ⟨31, 15, 2, 2⟩ = some ⟨24, 15, 16, 2⟩ := by decide +kernel

/-- withFetchWord puts the row's instruction where the next step takes it. -/
theorem test_with_fetch_word :
    (match step (State.reset.withFetchWord 8 0x11) with
      | .next t => t.events
      | .fault _ => []
      | .refused _ => []) = [.cmd 0x10, .data 0x01] := by decide +kernel

/-! ### Witnesses: states and operands that meet the hypotheses of each statement -/

/-- A bitmap at 0x1000, no flags. -/
def bm : BitmapArgs := ⟨0x1000, false, false, false⟩

/-- A configuration without a reset line. -/
def noReset : Cfg := { Config.cfgT with hasResetLine := false }

/-- A request of CLEAR_SCREEN waiting before a reset and a store. -/
def waiting : State :=
  { ready with port := [.submit (.request ⟨0x00FF0001, 0, 0, 0, 0, 0⟩), .reset, .store .slow 0xFFFFFFFF 0x7E] }

theorem witness_DecodeOfEncode :
    (Instr.reserved 0x00).wf Config.cfgT = true ∧ (Instr.reserved 0xFF).wf Config.cfgT = true ∧
    (Instr.cmdEntryMode .slave .xDecYDec).wf Config.cfgT = true ∧
    (Instr.writeImage bm ⟨0x8000, 0x7FFF, 0xFFFF, 0⟩).wf Config.cfgT = true := by decide

theorem witness_UnreadFieldsIgnored :
    agreeUnder (readMask (field (0x00FF0001 : Word) 0 8)) ⟨0x00FF0001, 0, 0, 0, 0, 0⟩ ⟨0xFFFFFF01, 1, 2, 3, 4, 5⟩ ∧
    agreeUnder (readMask (field (0x0000080E : Word) 0 8)) ⟨0x0000080E, 0, 0, 0, 0, 0⟩ ⟨0xFFFFFF0E, 1, 2, 3, 4, 5⟩ := by
  unfold agreeUnder; decide

theorem witness_StepRunsDecodedInstruction :
    waiting.port = .submit (.request ⟨0x00FF0001, 0, 0, 0, 0, 0⟩) :: waiting.port.tail ∧ waiting.engine = .idle ∧
    waiting.cfg.ok = true ∧ decode waiting.cfg (.request ⟨0x00FF0001, 0, 0, 0, 0, 0⟩) = .ok (.clearScreen 0xFF) :=
  ⟨rfl, rfl, by decide, rfl⟩

theorem witness_RequestsServedInOrder :
    waiting.engine = .idle ∧ waiting.cfg.ok = true ∧ onlyHostInputs waiting = true := by decide

theorem witness_RequestLatchedAndHeld :
    waiting.port = .submit (.request ⟨0x00FF0001, 0, 0, 0, 0, 0⟩) :: waiting.port.tail ∧ waiting.engine = .idle ∧
    waiting.cfg.ok = true := ⟨rfl, rfl, by decide⟩

theorem witness_HostStoreWritesOneByte :
    ({ ready with port := [.store .slow 0xFFFFFFFF 0x7E] } : State).port = .store .slow 0xFFFFFFFF 0x7E :: [] ∧
    ({ ready with port := [.store .slow 0xFFFFFFFF 0x7E] } : State).engine = .idle ∧
    (SourceSpace.fast ≠ .slow ∨ 0xFFFFFFFF ≠ (0xFFFFFFFF : Word).toNat) := ⟨rfl, rfl, by decide⟩

theorem witness_ResetValues :
    ({ greyDevice with engine := .running, port := [.reset] } : State).port = .reset :: [] := rfl

theorem witness_BoundaryHoldsAtReset :
    ({ Config.cfgT with hibernatingAtReset := true } : Cfg).ok = true ∧ noReset.ok = true := by decide

theorem witness_StepKeepsBoundary :
    atBoundary waiting = true ∧ waiting.cfg.ok = true ∧ ∃ t, step waiting = .next t := ⟨by decide, by decide, _, rfl⟩

theorem witness_NothingElseWritten : ∃ t, exec (.drawImage bm ⟨0, 0, 16, 16⟩) State.reset = .next t := ⟨_, rfl⟩

theorem witness_PendingFlagsOnlyCleared :
    ready.st.powerIsOn = false ∧ (∃ t, exec .hibernate ready = .next t) ∧ ready.st.initialWritePending = false ∧
    ready.st.initialRefreshPending = false := ⟨rfl, ⟨_, rfl⟩, rfl, rfl⟩

theorem witness_ModeChangesOnlyAsListed :
    ready.st.powerIsOn = false ∧
    (exec (.writeImage4G 2 bm ⟨0, 0, 8, 1⟩) ready = .next (run (.writeImage4G 2 bm ⟨0, 0, 8, 1⟩) ready) ∧
      (run (.writeImage4G 2 bm ⟨0, 0, 8, 1⟩) ready).st.refreshMode ≠ ready.st.refreshMode) ∧
    (exec (.setRefreshMode .fastRefresh) ready = .next (run (.setRefreshMode .fastRefresh) ready) ∧
      (run (.setRefreshMode .fastRefresh) ready).st.refreshMode ≠ ready.st.refreshMode) ∧
    greyDevice.st.powerIsOn = false ∧
    exec (.writeImage bm ⟨0, 0, 8, 1⟩) greyDevice = .next (run (.writeImage bm ⟨0, 0, 8, 1⟩) greyDevice) ∧
    (run (.writeImage bm ⟨0, 0, 8, 1⟩) greyDevice).st.refreshMode ≠ greyDevice.st.refreshMode :=
  ⟨rfl, ⟨rfl, by decide +kernel⟩, ⟨rfl, by decide +kernel⟩, rfl, rfl, by decide +kernel⟩

/-- A hibernating device. -/
def asleep : State := { ready with st := ⟨.fullRefresh, false, false, false, false, true, false⟩ }

theorem witness_ResetEventNeedsResetLine :
    asleep.st.lattice asleep.cfg = true ∧ exec (.refresh false) asleep = .next (run (.refresh false) asleep) ∧
    Event.resetLine ∈ (run (.refresh false) asleep).events := ⟨by decide, rfl, by decide +kernel⟩

theorem witness_BusyTimeoutBit : isRequest (.refresh false) = true ∧ ready.st.powerIsOn = false := by decide

theorem witness_BusyAnswersReachStatusOnly :
    isRequest (.refresh false) = true ∧ ready.st.powerIsOn = false ∧
    SameButAnswers ready { ready with busyInputs := [.timedOut], draws := 7, status := 0x80 } :=
  ⟨rfl, rfl, rfl, rfl, rfl, rfl, rfl, rfl, rfl, rfl, rfl, rfl⟩

theorem witness_StatusHasOneCode : isRequest .hibernate = true ∧ ready.st.powerIsOn = false := by decide

/-- A request with the first reserved opcode above the assigned ones. -/
def reservedWaiting : State := { ready with port := [.submit (.request ⟨0x00000013, 0, 0, 0, 0, 0⟩)] }

theorem witness_ReservedOpcodeDoesNothing :
    reservedWaiting.port = .submit (.request ⟨0x00000013, 0, 0, 0, 0, 0⟩) :: [] ∧ reservedWaiting.engine = .idle ∧
    reservedWaiting.cfg.ok = true ∧ (field (0x00000013 : Word) 0 8 = 0x00 ∨ 0x13 ≤ (field (0x00000013 : Word) 0 8).toNat) ∧
    field (0x00000100 : Word) 0 8 = 0x00 := ⟨rfl, rfl, by decide, by decide, by decide⟩

/-- The 2bpp format. -/
def twoBits : GreyFormat := ⟨2, 4, 0xC0, 0x80⟩

/-- R151 at its boundaries: x = 63 is on the panel of 64 columns and x = 64 is not; the part offset 15 of a 16 pixel wide bitmap
is in range and 16 is not; a region ending at x = 1 is on the panel and one ending at 0 is not. -/
theorem witness_GeometryErrorsAreNoops :
    ready.st.powerIsOn = false ∧ ready.cfg.geometryOk = true ∧ greyFormat ready.cfg 2 = some twoBits ∧
    imageRefused ready.cfg ⟨64, 0, 1, 1⟩ ∧ ¬imageRefused ready.cfg ⟨63, 31, 1, 1⟩ ∧
    partRefused ready.cfg 8 ⟨16, 0, 16, 1⟩ ⟨0, 0, 8, 1⟩ ∧ ¬partRefused ready.cfg 8 ⟨15, 0, 16, 1⟩ ⟨0, 0, 8, 1⟩ ∧
    partRefused ready.cfg twoBits.ppb ⟨0, 1, 16, 1⟩ ⟨0, 0, 8, 1⟩ ∧
    ¬partRefused ready.cfg twoBits.ppb ⟨0, 0, 16, 1⟩ ⟨0, 0, 8, 1⟩ ∧
    regionRefused ready.cfg ⟨0xFFFF, 0, 1, 1⟩ ∧ ¬regionRefused ready.cfg ⟨0xFFFF, 0, 2, 1⟩ := by
  unfold imageRefused partRefused regionRefused offPanel
  refine ⟨by decide, by decide, rfl, ?_, ?_, ?_, ?_, ?_, ?_, ?_, ?_⟩ <;> decide +kernel

theorem witness_UnsupportedBppIsNoop :
    ready.st.powerIsOn = false ∧ ((1 : Byte) ≠ 2 ∧ (1 : Byte) ≠ 4 ∧ (1 : Byte) ≠ 8) ∧
    ¬((8 : Byte) ≠ 2 ∧ (8 : Byte) ≠ 4 ∧ (8 : Byte) ≠ 8) := by decide

theorem witness_PowerOffResult :
    ready.st.powerIsOn = false ∧ ({ ready.st with powerIsOn := true } : DcpState).powerIsOn = true := by decide

theorem witness_HibernateResult :
    ready.st.powerIsOn = false ∧ ready.cfg.hasResetLine = true ∧ noReset.hasResetLine = false := by decide

theorem witness_WakeAfterHibernate : greyDevice.st.powerIsOn = false ∧ greyDevice.cfg.hasResetLine = true := by decide

theorem witness_RefreshResult : greyDevice.st.powerIsOn = false ∧ State.reset.st.powerIsOn = false := by decide

theorem witness_RefreshRegionResult :
    State.reset.st.powerIsOn = false ∧ State.reset.st.initialRefreshPending = true ∧
    ready.st.powerIsOn = false ∧ ready.st.initialRefreshPending = false ∧ ready.st.refreshMode ≠ .forcedFullRefresh ∧
    ready.st.refreshMode ≠ .greyRefresh ∧ alignRegion ready.cfg (rectOf ⟨64, 0, 8, 8⟩) = none ∧
    alignRegion ready.cfg (rectOf ⟨63, 31, 1, 1⟩) ≠ none := by decide +kernel

theorem witness_PartialRefreshIsWholePanelRegion : ready.cfg.geometryOk = true ∧ ready.st.powerIsOn = false := by decide

/-- Each row of R128 has a boundary state. -/
theorem witness_RefreshTable :
    (∀ st ∈ ([⟨.fullRefresh, false, true, false, false, false, false⟩, ⟨.fullRefresh, false, false, false, true, false, true⟩,
        ⟨.greyRefresh, false, false, true, false, false, false⟩, ⟨.greyRefresh, false, false, false, false, true, false⟩,
        ⟨.fastRefresh, false, true, false, false, false, true⟩, ⟨.fastRefresh, false, false, true, false, false, false⟩,
        ⟨.fastRefresh, false, false, false, false, true, false⟩,
        ⟨.forcedFullRefresh, false, false, true, false, false, false⟩] : List DcpState),
      st.powerIsOn = false ∧ st.lattice Config.cfgT = true) ∧
    alignRegion Config.cfgT (rectOf ⟨63, 31, 1, 1⟩) ≠ none := by decide +kernel

theorem witness_ClearScreenResult : State.reset.st.powerIsOn = false ∧ asleep.st.powerIsOn = false := by decide

theorem witness_FillResults : State.reset.st.powerIsOn = false ∧ greyDevice.st.powerIsOn = false := by decide

theorem witness_EventCounts :
    Config.cfgT.geometryOk = true ∧ ({ Config.cfgT with width := 16, height := 2 } : Cfg).geometryOk = true ∧
    ({ Config.cfgT with width := 4096, height := 32766 } : Cfg).geometryOk = true := by decide

/-- One byte at the panel's last byte column and row, and its view. -/
def cornerClip : Clip := ⟨⟨56, 31, 8, 1⟩, 0, 0⟩
def cornerView : SourceView := ⟨.fast, 0x1000, 1, 1, 1, 0, 0, false, false⟩

/-- The last byte column of a 16 pixel wide bitmap, and its view. -/
def partClip : Clip := ⟨⟨0, 0, 8, 1⟩, 0, 0⟩
def partView : SourceView := ⟨.fast, 0x1000, 1, 2, 1, 8, 0, false, false⟩

/-- A bitmap in slow memory, mirrored and not inverted. -/
def slowMirrored : BitmapArgs := ⟨0x1000, false, true, true⟩

theorem placed_corner : ImagePlaced Config.cfgT 1 bm ⟨63, 31, 1, 1⟩ cornerClip cornerView := by
  constructor <;> decide +kernel

theorem placed_slow :
    ImagePlaced Config.cfgT 1 slowMirrored ⟨63, 31, 1, 1⟩ cornerClip ⟨.slow, 0x1000, 1, 1, 1, 0, 0, false, true⟩ := by
  constructor <;> decide +kernel

theorem placed_part : PartPlaced Config.cfgT 1 8 bm ⟨15, 0, 16, 1⟩ ⟨0, 0, 8, 1⟩ 8 1 partClip partView := by
  constructor <;> decide +kernel

theorem witness_MonoWriteResults :
    State.reset.st.powerIsOn = false ∧ ImagePlaced State.reset.cfg 1 bm ⟨63, 31, 1, 1⟩ cornerClip cornerView ∧
    PartPlaced State.reset.cfg 1 8 bm ⟨15, 0, 16, 1⟩ ⟨0, 0, 8, 1⟩ 8 1 partClip partView := ⟨rfl, placed_corner, placed_part⟩

/-- A row of eight pixels at 2 bits per pixel. -/
def greyView : SourceView := ⟨.fast, 0x1000, 2, 2, 1, 0, 0, false, false⟩

theorem placed_grey : ImagePlaced Config.cfgT (2 : Byte).toNat bm ⟨0, 0, 8, 1⟩ partClip greyView := by
  constructor <;> decide +kernel

theorem placed_grey_part :
    PartPlaced Config.cfgT (2 : Byte).toNat (8 / (2 : Byte).toNat : Nat) bm ⟨3, 0, 8, 1⟩ ⟨0, 0, 8, 1⟩ 8 1 partClip greyView := by
  constructor <;> decide +kernel

theorem witness_GreyWriteResults :
    State.reset.st.powerIsOn = false ∧ greyFormat State.reset.cfg 2 = some twoBits ∧
    ImagePlaced State.reset.cfg (2 : Byte).toNat bm ⟨0, 0, 8, 1⟩ partClip greyView ∧
    PartPlaced State.reset.cfg (2 : Byte).toNat (8 / (2 : Byte).toNat : Nat) bm ⟨3, 0, 8, 1⟩ ⟨0, 0, 8, 1⟩ 8 1 partClip greyView :=
  ⟨rfl, rfl, placed_grey, placed_grey_part⟩

theorem witness_MonoDrawIsWriteRefreshAgain :
    ready.st.powerIsOn = false ∧ ready.cfg.geometryOk = true ∧
    ImagePlaced ready.cfg 1 bm ⟨63, 31, 1, 1⟩ cornerClip cornerView ∧
    PartPlaced ready.cfg 1 8 bm ⟨15, 0, 16, 1⟩ ⟨0, 0, 8, 1⟩ 8 1 partClip partView :=
  ⟨rfl, by decide, placed_corner, placed_part⟩

theorem witness_GreyDrawIsWriteRefresh :
    ready.st.powerIsOn = false ∧ ready.cfg.geometryOk = true ∧ greyFormat ready.cfg 2 = some twoBits ∧
    ImagePlaced ready.cfg (2 : Byte).toNat bm ⟨0, 0, 8, 1⟩ partClip greyView ∧
    PartPlaced ready.cfg (2 : Byte).toNat (8 / (2 : Byte).toNat : Nat) bm ⟨3, 0, 8, 1⟩ ⟨0, 0, 8, 1⟩ 8 1 partClip greyView ∧
    (run (.writeImage4G 2 bm ⟨0, 0, 8, 1⟩) ready).st.refreshMode = .greyRefresh :=
  ⟨rfl, by decide, rfl, placed_grey, placed_grey_part, by decide +kernel⟩

theorem witness_EveryTransferHasItsWindow :
    ready.cfg.ok = true ∧ ready.st.powerIsOn = false ∧
    ∃ t, exec (.drawImage bm ⟨63, 31, 1, 1⟩) ready = .next t := ⟨by decide, rfl, _, rfl⟩

theorem witness_ClipToPanelKeepsPanelPixels :
    Config.cfgT.geometryOk = true ∧ (56 : Int) % 8 = 0 ∧ (8 : Int) % 8 = 0 ∧
    clipToPanel Config.cfgT ⟨64, 0, 8, 1⟩ = none ∧ clipToPanel Config.cfgT ⟨-8, 31, 80, 2⟩ = some ⟨⟨0, 31, 64, 1⟩, 8, 0⟩ := by
  decide +kernel

theorem witness_AlignRegionClipsThenRounds :
    Config.cfgT.geometryOk = true ∧ alignRegion Config.cfgT ⟨-5, -5, 5, 5⟩ = none ∧
    alignRegion Config.cfgT ⟨63, 31, 1, 1⟩ = some ⟨56, 31, 8, 1⟩ := by decide +kernel

/-- A rectangle across all four quadrants, with a trim. -/
def cross : Clip := ⟨⟨24, 12, 16, 8⟩, 8, 2⟩

theorem witness_SubRectInvariants :
    Config.cfgT.geometryOk = true ∧ trimmed Config.cfgT cross ∧
    (⟨.master, .xDecYDec, 24, 12, 8, 4, 16, 6⟩ : SubRect) ∈ partition Config.cfgT cross := by
  unfold trimmed clippedAligned
  decide +kernel

theorem witness_PartitionNoGapsNoOverlaps :
    Config.cfgT.geometryOk = true ∧ clippedAligned Config.cfgT cross.rect ∧ inRect cross.rect 39 19 ∧
    ¬inRect cross.rect 40 19 := by
  unfold clippedAligned inRect
  decide +kernel

theorem witness_SourceOffsetFollowsPixel :
    Config.cfgT.geometryOk = true ∧ clippedAligned Config.cfgT cross.rect ∧
    (⟨.master, .xDecYDec, 24, 12, 8, 4, 16, 6⟩ : SubRect) ∈ partition Config.cfgT cross ∧
    covers Config.cfgT 39 19 ⟨.master, .xDecYDec, 24, 12, 8, 4, 16, 6⟩ = true ∧
    (⟨.slave, .xIncYInc, 24, 12, 8, 4, 8, 2⟩ : SubRect) ∈ partition Config.cfgT cross ∧
    covers Config.cfgT 24 12 ⟨.slave, .xIncYInc, 24, 12, 8, 4, 8, 2⟩ = true := by
  unfold clippedAligned
  decide +kernel

theorem witness_OneQuadrantAndWholePanel :
    Config.cfgT.geometryOk = true ∧ clippedAligned Config.cfgT ⟨32, 16, 32, 16⟩ ∧
    (Quadrant.masterLower.xRange Config.cfgT).1 ≤ 32 ∧ 32 + 32 ≤ (Quadrant.masterLower.xRange Config.cfgT).2 ∧
    (Quadrant.masterLower.yRange Config.cfgT).1 ≤ 16 ∧ 16 + 16 ≤ (Quadrant.masterLower.yRange Config.cfgT).2 := by
  unfold clippedAligned
  decide +kernel

/-- The largest window: 2048 by 32766 pixels, byte column 255 and row 32765 its last. -/
theorem witness_SetWindowSendsItsBounds :
    ({ Config.cfgT with width := 4096, height := 32766 } : Cfg).geometryOk = true ∧
    (0 : Int) + 2048 ≤ controllerWidth { Config.cfgT with width := 4096, height := 32766 } ∧
    (0 : Int) + 32766 ≤ controllerHeight { Config.cfgT with width := 4096, height := 32766 } ∧
    (2048 : Int) % 8 = 0 ∧ (24 : Int) % 8 = 0 ∧ (24 : Int) + 8 ≤ controllerWidth Config.cfgT := by decide +kernel

theorem witness_SourceRowsStayInBitmap :
    Config.cfgT.geometryOk = true ∧
    (ImagePlaced Config.cfgT 1 slowMirrored ⟨63, 31, 1, 1⟩ cornerClip ⟨.slow, 0x1000, 1, 1, 1, 0, 0, false, true⟩ ∨
      PartPlaced Config.cfgT 1 8 slowMirrored ⟨0, 0, 8, 1⟩ ⟨63, 31, 1, 1⟩ 1 1 cornerClip
        ⟨.slow, 0x1000, 1, 1, 1, 0, 0, false, true⟩) ∧
    ImagePlaced Config.cfgT 1 bm ⟨63, 31, 1, 1⟩ cornerClip cornerView ∧
    (⟨.master, .xDecYDec, 0, 0, 8, 1, 0, 0⟩ : SubRect) ∈ partition Config.cfgT cornerClip ∧ ((0 : Nat) : Int) < 1 :=
  ⟨by decide, .inl placed_slow, placed_corner, by decide +kernel, by decide⟩

theorem witness_MonoReadsStayInBitmap :
    Config.cfgT.geometryOk = true ∧
    (ImagePlaced Config.cfgT 1 bm ⟨0, 0, 8, 1⟩ partClip partView ∨
      PartPlaced Config.cfgT 1 8 bm ⟨15, 0, 16, 1⟩ ⟨0, 0, 8, 1⟩ 8 1 partClip partView) ∧
    (⟨.slave, .xIncYInc, 0, 0, 8, 1, 0, 0⟩ : SubRect) ∈ partition Config.cfgT partClip ∧ ((0 : Nat) : Int) < 1 ∧
    ((0 : Nat) : Int) < 8 / 8 := ⟨by decide, .inr placed_part, by decide +kernel, by decide, by decide⟩

/-- A sub-rectangle of one byte. -/
def oneByte : SubRect := ⟨.slave, .xIncYInc, 0, 0, 8, 1, 0, 0⟩

theorem witness_MonoStreamSendsSourceBytes :
    0 < oneByte.w ∧ oneByte.w % 8 = 0 ∧ 0 < oneByte.h ∧ ((0 : Nat) : Int) < oneByte.h ∧ ((0 : Nat) : Int) < oneByte.w / 8 ∧
    (1 : Int) < partView.extent ∧
    Memory.read? ((withFast ready 0x1000 [0x11, 0x22]).memory .fast) ((0x1000 + 1) % 2 ^ 32) = some 0x22 := by
  decide +kernel

theorem witness_GreyLevelsByValue : ((1 : Byte) ≠ 2 ∧ (1 : Byte) ≠ 4 ∧ (1 : Byte) ≠ 8) := by decide

theorem witness_GreyPixelBitsSent :
    greyFormat ready.cfg 8 = some ⟨8, 1, 0xFF, 0xA0⟩ ∧ (7 : Nat) < 8 := ⟨rfl, by decide⟩

theorem witness_GreyStreamSendsPackedBytes :
    0 < oneByte.w ∧ oneByte.w % 8 = 0 ∧ 0 < oneByte.h ∧ ((0 : Nat) : Int) < oneByte.h ∧ ((0 : Nat) : Int) < oneByte.w / 8 := by
  decide +kernel

/-- A bitmap of two rows of two bytes, and its vertically flipped copy behind it. -/
def flippedPair : State := withFast greyDevice 0 [0x11, 0x12, 0x21, 0x22, 0x21, 0x22, 0x11, 0x12]

/-- The bitmap, mirrored. -/
def mirrored : SourceView := ⟨.fast, 0, 2, 2, 2, 0, 0, false, true⟩

/-- The flipped copy, not mirrored. -/
def flipped : SourceView := ⟨.fast, 4, 2, 2, 2, 0, 0, false, false⟩

theorem witness_MirrorLaw_bytes (row col : Int) (h0 : 0 ≤ row) (h1 : row < mirrored.hsrc) (h2 : 0 ≤ col)
    (h3 : col < mirrored.stride) :
    flippedPair.sourceByte flipped (row * mirrored.stride + col)
      = flippedPair.sourceByte mirrored ((mirrored.hsrc - 1 - row) * mirrored.stride + col) := by
  have h1' : row < 2 := h1
  have h3' : col < 2 := h3
  have hr : row = 0 ∨ row = 1 := by omega
  have hc : col = 0 ∨ col = 1 := by omega
  rcases hr with rfl | rfl <;> rcases hc with rfl | rfl <;> rfl

theorem witness_MirrorLaw :
    greyFormat flippedPair.cfg 2 = some twoBits ∧ mirrored.mirrorY = true ∧ flipped.mirrorY = false ∧
    flipped.stride = mirrored.stride ∧ flipped.hsrc = mirrored.hsrc ∧ flipped.xoff = mirrored.xoff ∧
    flipped.yoff = mirrored.yoff ∧ flipped.invert = mirrored.invert ∧ 0 ≤ mirrored.xoff + oneByte.sdx ∧
    0 ≤ mirrored.yoff + oneByte.sdy ∧ mirrored.yoff + oneByte.sdy + oneByte.h ≤ mirrored.hsrc ∧
    (mirrored.xoff + oneByte.sdx) / 8 + oneByte.w / 8 ≤ mirrored.stride ∧
    (mirrored.xoff + oneByte.sdx) / twoBits.ppb + oneByte.w / 8 * twoBits.bpp ≤ mirrored.stride := by decide +kernel

theorem witness_SinkStoresBlockWhereItBelongs :
    Config.cfgT.geometryOk = true ∧ sinkCfg Config.cfgT = true ∧ clippedAligned Config.cfgT cross.rect ∧
    (⟨.master, .xDecYDec, 24, 12, 8, 4, 16, 6⟩ : SubRect) ∈ partition Config.cfgT cross ∧
    (([0x01, 0x02, 0x03, 0x04] : List Byte).length : Int) = 8 / 8 * 4 := by
  unfold clippedAligned
  decide +kernel

theorem witness_SinkClearScreenFillsBothPlanes :
    State.reset.cfg.ok = true ∧ sinkCfg State.reset.cfg = true ∧ State.reset.st.powerIsOn = false ∧
    (((3 : Byte).toNat : Int) < controllerWidth State.reset.cfg / 8) ∧
    (((31 : Half).toNat : Int) < controllerHeight State.reset.cfg) := by decide +kernel

/-- R185: UpdatePart has 9 events in CFG_T. -/
theorem test_update_part_events : ready.updatePart.events.length = ready.events.length + 9 := by decide +kernel

/-- PartitionOrder has no hypothesis: a rectangle across all four quadrants, in the order of R73 and R74's example. -/
theorem test_partition_order :
    (partition Config.cfgT cross).map (fun sub => (sub.target, sub.sdx, sub.sdy))
      = [(.slave, 8, 2), (.slave, 8, 6), (.master, 16, 2), (.master, 16, 6)] := by decide +kernel

end Sys2Proof.Tests
end

section
/-! The scope family (00_scope.md). First what no procedure writes, whatever the power flag (R4, R30): each rule says
that a procedure run from a state with the environment of `s` leaves that environment, and its proof repeats the
procedure's definition. -/

namespace Sys2Proof.Safety.SameEnvironment

open Sys2Proof.Machine

variable {s t u : State}

theorem refl (s : State) : SameEnvironment s s := ⟨rfl, fun _ _ => rfl, rfl, rfl⟩

theorem trans (h : SameEnvironment s t) (h' : SameEnvironment t u) : SameEnvironment s u where
  cfg := h'.cfg.trans h.cfg
  memory space address := (h'.memory space address).trans (h.memory space address)
  latch := h'.latch.trans h.latch
  port := h'.port.trans h.port

/-- The environment is six of the state's fields. -/
theorem of_fields (hc : t.cfg = s.cfg) (hf : t.srcFast = s.srcFast) (hs : t.srcSlow = s.srcSlow)
    (hl : t.latch = s.latch) (hp : t.port = s.port) : SameEnvironment s t where
  cfg := hc
  memory space address := by cases space <;> simp [State.memory, hf, hs]
  latch := hl
  port := hp

/-- A body in closed form writes none of it. -/
theorem run {st : DcpState} {es : List Event} (h : SameEnvironment s t) (hr : Runs t u st es) : SameEnvironment s u :=
  h.trans (of_fields hr.hcfg hr.hsrcFast hr.hsrcSlow hr.hlatch hr.hport)

theorem ite {p : Prop} [Decidable p] (ht : SameEnvironment s t) (hu : SameEnvironment s u) :
    SameEnvironment s (if p then t else u) := by
  split
  · exact ht
  · exact hu

/-! ### The primitives of a body -/

theorem emit (h : SameEnvironment s t) (es : List Event) : SameEnvironment s (t.emit es) :=
  h.trans (of_fields rfl rfl rfl rfl rfl)

theorem withSt (h : SameEnvironment s t) (st : DcpState) : SameEnvironment s (t.withSt st) := h.run (Runs.withSt t st)

theorem waitBusy (h : SameEnvironment s t) (ms : Nat) : SameEnvironment s (t.waitBusy ms) := h.run (waitBusy_runs t ms)

theorem emitSeq (h : SameEnvironment s t) (items : List SeqItem) : SameEnvironment s (t.emitSeq items) :=
  h.run (emitSeq_runs t items)

/-! ### The refresh machine (43_refresh_fsm.md) -/

theorem initPlain (h : SameEnvironment s t) : SameEnvironment s t.initPlain := h.run (initPlain_runs t)

theorem ensureInitPlain (h : SameEnvironment s t) : SameEnvironment s t.ensureInitPlain := h.run (ensureInitPlain_runs t)

theorem ensureInitGrey (h : SameEnvironment s t) : SameEnvironment s t.ensureInitGrey := h.run (ensureInitGrey_runs t)

theorem ensureInitAny (h : SameEnvironment s t) : SameEnvironment s t.ensureInitAny := h.initPlain.ite h

theorem powerOn (h : SameEnvironment s t) : SameEnvironment s t.powerOn :=
  (h.ite ((h.emitSeq _).waitBusy _)).withSt _

theorem powerOff (h : SameEnvironment s t) : SameEnvironment s t.powerOff :=
  (((h.emitSeq _).waitBusy _).ite h).withSt _

theorem updateFull (h : SameEnvironment s t) : SameEnvironment s t.updateFull :=
  ((h.powerOn.emitSeq _).waitBusy _).withSt _

theorem updateGrey (h : SameEnvironment s t) : SameEnvironment s t.updateGrey :=
  ((h.powerOn.emitSeq _).waitBusy _).withSt _

theorem updatePart (h : SameEnvironment s t) : SameEnvironment s t.updatePart := ((h.emit _).waitBusy _).withSt _

theorem reinitialize (h : SameEnvironment s t) : SameEnvironment s t.reinitialize := h.initPlain.ite h

theorem updateByMode (h : SameEnvironment s t) : SameEnvironment s t.updateByMode := h.updateGrey.ite h.updateFull

theorem fullRefresh (h : SameEnvironment s t) : SameEnvironment s t.fullRefresh :=
  h.ensureInitAny.reinitialize.updateByMode.withSt _

theorem partialRefresh (h : SameEnvironment s t) : SameEnvironment s t.partialRefresh :=
  (h.ensureInitAny.initPlain.ite h.ensureInitAny).updatePart

theorem regionRefresh (h : SameEnvironment s t) (r : Rect) : SameEnvironment s (t.regionRefresh r).1 := by
  unfold State.regionRefresh
  split
  · exact h.fullRefresh
  · split
    · exact h
    · exact h.partialRefresh

theorem hibernateBody (h : SameEnvironment s t) : SameEnvironment s t.hibernateBody.1 := by
  unfold State.hibernateBody
  dsimp only
  split
  · exact (h.powerOff.emit _).withSt _
  · exact h.powerOff

/-! ### The writes (44_write_ops.md) -/

theorem fillPlanes (h : SameEnvironment s t) (planes : List Plane) (value : Byte) :
    SameEnvironment s (t.fillPlanes planes value) := h.emit _

theorem clearScreen (h : SameEnvironment s t) (value : Byte) : SameEnvironment s (t.clearScreen value) :=
  (h.ensureInitPlain.fillPlanes _ value).fullRefresh.withSt _

theorem redirect (h : SameEnvironment s t) (value : Byte) : SameEnvironment s (t.redirect value) :=
  (h.clearScreen value).ite h

theorem fillBody (h : SameEnvironment s t) (planes : List Plane) (value : Byte) :
    SameEnvironment s (t.fillBody planes value) := (h.redirect value).ensureInitPlain.fillPlanes planes value

theorem monoBody (h : SameEnvironment s t) (planes : List Plane) (plan : WritePlan) :
    SameEnvironment s (t.monoBody planes plan) := (h.redirect _).ensureInitPlain.emit _

theorem greyBody (h : SameEnvironment s t) (f : GreyFormat) (plan : WritePlan) :
    SameEnvironment s (t.greyBody f plan) := (h.redirect _).ensureInitGrey.emit _

/-! ### A whole instruction -/

/-- The start and the completion of an operation write none of it either. -/
theorem operate {body : State → State × StatusCode} (h : SameEnvironment s.start (body s.start).1) :
    SameEnvironment s (s.operate body) :=
  have hs : SameEnvironment s s.start := of_fields rfl rfl rfl rfl rfl
  (hs.trans h).trans (of_fields rfl rfl rfl rfl rfl)

theorem drive (s : State) (es : List Event) : SameEnvironment s (s.drive es) := of_fields rfl rfl rfl rfl rfl

end Sys2Proof.Safety.SameEnvironment
end

section
/-! The invariants of the flags (10_state.md R21) through the closed forms of the seven fields that the operations leave. -/

namespace Sys2Proof.Machine

variable {c : Cfg} {st : DcpState}

/-- R21 line by line, with R127. -/
theorem lattice_iff :
    st.lattice c = true ↔
      ¬(st.displayInitialized = true ∧ st.grayscaleInitialized = true) ∧
      (st.hibernating = true →
        st.displayInitialized = false ∧ st.grayscaleInitialized = false ∧ c.hasResetLine = true) ∧
      (st.refreshMode = .greyRefresh → st.displayInitialized = false) ∧ st.powerIsOn = false := by
  unfold DcpState.lattice
  cases st.displayInitialized <;> cases st.grayscaleInitialized <;> cases st.hibernating <;> simp

theorem lattice_powerIsOn (h : st.lattice c = true) : st.powerIsOn = false := (lattice_iff.1 h).2.2.2

theorem lattice_afterInitPlain (h : st.powerIsOn = false) : (afterInitPlain st).lattice c = true := by
  simp [lattice_iff, afterInitPlain, h]

theorem lattice_afterInitGrey (h : st.powerIsOn = false) : (afterInitGrey st).lattice c = true := by
  simp [lattice_iff, afterInitGrey, h]

theorem lattice_afterEnsurePlain (h : st.lattice c = true) : (afterEnsurePlain st).lattice c = true := by
  unfold afterEnsurePlain
  split
  · exact h
  · exact lattice_afterInitPlain (lattice_powerIsOn h)

theorem lattice_afterEnsureGrey (h : st.lattice c = true) : (afterEnsureGrey st).lattice c = true := by
  unfold afterEnsureGrey
  split
  · exact h
  · exact lattice_afterInitGrey (lattice_powerIsOn h)

theorem lattice_afterFullRefresh (h : st.lattice c = true) : (afterFullRefresh st).lattice c = true := by
  unfold afterFullRefresh
  split
  · exact lattice_afterInitPlain (lattice_powerIsOn h)
  · exact h

theorem lattice_afterClear (h : st.lattice c = true) : (afterClear st).lattice c = true :=
  lattice_afterFullRefresh (lattice_afterEnsurePlain h)

theorem lattice_afterRedirect (h : st.lattice c = true) : (afterRedirect st).lattice c = true := by
  unfold afterRedirect
  split
  · exact lattice_afterClear h
  · exact h

theorem lattice_afterRegionRefresh (h : st.lattice c = true) : (afterRegionRefresh st).lattice c = true := by
  unfold afterRegionRefresh
  split
  · exact lattice_afterFullRefresh h
  · split
    · exact lattice_afterInitPlain (lattice_powerIsOn h)
    · exact h

/-- The seven fields after a HIBERNATE that is not skipped (43_refresh_fsm.md R126). -/
def afterHibernate (st : DcpState) : DcpState :=
  { st with hibernating := true, displayInitialized := false, grayscaleInitialized := false }

theorem lattice_afterHibernate (h : st.powerIsOn = false) (hc : c.hasResetLine = true) :
    (afterHibernate st).lattice c = true := by
  simp [lattice_iff, afterHibernate, h, hc]

/-- A mode other than `grey_refresh` breaks no invariant. -/
theorem lattice_setMode {mode : RefreshMode} (hm : mode ≠ .greyRefresh) (h : st.lattice c = true) :
    ({ st with refreshMode := mode } : DcpState).lattice c = true := by
  obtain ⟨hboth, hhib, -, hpower⟩ := lattice_iff.1 h
  exact lattice_iff.2 ⟨hboth, hhib, fun hq => absurd hq hm, hpower⟩

/-- The reset values under an admissible CFG (R22, R171). -/
theorem lattice_afterReset (h : c.ok = true) : (DcpState.afterReset c.hibernatingAtReset).lattice c = true := by
  have hline : c.hibernatingAtReset = true → c.hasResetLine = true := by
    intro hh
    simp_all [Cfg.ok]
  simpa [lattice_iff, DcpState.afterReset] using hline

end Sys2Proof.Machine
end

section
/-! What every request does, as a function of its view: CFG, the seven fields and the pixel events that the source memory
gives a write. A busy-wait answer is no part of the view (00_scope.md R3). -/

namespace Sys2Proof.Machine

open Sys2Proof.Safety

/-- All that the body of an operation depends on. -/
structure View where
  cfg : Cfg
  st : DcpState
  sent : List Plane → Option GreyFormat → Clip → SourceView → List Event

/-- The view of a state: the pixel events are those WritePlanes would emit in it. -/
def State.view (s : State) : View := ⟨s.cfg, s.st, s.writeEvents⟩

/-- What the body of an operation does: the seven fields it leaves, the events it emits, its completion code. -/
structure Effect where
  st : DcpState
  events : List Event
  code : StatusCode

/-- The body has this effect from every state without power, keeps the flags' invariants, and writes nothing of the
environment from any state. -/
structure Implements (body : State → State × StatusCode) (effect : View → Effect) : Prop where
  runs : ∀ s : State, s.st.powerIsOn = false → Runs s (body s).1 (effect s.view).st (effect s.view).events
  code : ∀ s : State, s.st.powerIsOn = false → (body s).2 = (effect s.view).code
  power : ∀ v : View, v.st.powerIsOn = false → (effect v).st.powerIsOn = false
  lattice : ∀ v : View, v.st.lattice v.cfg = true → (effect v).st.lattice v.cfg = true
  environment : ∀ s : State, SameEnvironment s (body s).1

/-- The body's effect is a function of the view. -/
def Lawful (body : State → State × StatusCode) : Prop := ∃ effect : View → Effect, Implements body effect

/-- A body changes nothing of the view but the seven fields. -/
theorem Runs.view {s t : State} {st : DcpState} {es : List Event} (h : Runs s t st es) :
    t.view = { s.view with st := st } := by
  have hw : t.writeEvents = s.writeEvents := by
    funext planes format clip src
    exact h.writeEvents planes format clip src
  simp [State.view, h.hst, h.hcfg, hw]

/-- States that differ at most in the answers have one view. -/
theorem view_of_sameButAnswers {s s' : State} (h : SameButAnswers s s') : s'.view = s.view := by
  have hm : ∀ space, s'.memory space = s.memory space := by
    intro space
    cases space
    · exact h.srcFast
    · exact h.srcSlow
  have hw : s'.writeEvents = s.writeEvents := by
    funext planes format clip src
    exact writeEvents_congr h.cfg hm h.epoch planes format clip src
  simp [State.view, h.st, h.cfg, hw]

/-- A region refresh that is no no-op: an upgrade, or a region that is not empty (R123). -/
theorem regionRefresh_runs_unless_noop {s : State} (hs : s.st.powerIsOn = false) {r : Rect}
    (hr : ¬(s.st.upgradesRegion = false ∧ alignRegion s.cfg r = none)) :
    Runs s (s.regionRefresh r).1 (afterRegionRefresh s.st) (regionRefreshEvents s.cfg s.st)
      ∧ (s.regionRefresh r).2 = .ok := by
  cases hu : s.st.upgradesRegion with
  | false => exact regionRefresh_runs s hs r fun ha => hr ⟨hu, ha⟩
  | true =>
    rw [regionRefresh_upgraded s r hu]
    unfold DcpState.upgradesRegion at hu
    simp only [afterRegionRefresh, regionRefreshEvents, hu, if_true, and_true]
    exact fullRefresh_runs s hs

namespace Lawful

/-! ### How bodies are put together -/

/-- An early end: a no-op with its code (60_exceptions.md R151). -/
theorem nothing (code : StatusCode) : Lawful fun s => (s, code) :=
  ⟨fun v => ⟨v.st, [], code⟩,
    { runs := fun s _ => Runs.refl s
      code := fun _ _ => rfl
      power := fun _ h => h
      lattice := fun _ h => h
      environment := .refl }⟩

/-- One body after another; the code is the second's. -/
theorem comp {body body' : State → State × StatusCode} (h : Lawful body) (h' : Lawful body') :
    Lawful fun s => body' (body s).1 := by
  obtain ⟨effect, h⟩ := h
  obtain ⟨effect', h'⟩ := h'
  refine ⟨fun v =>
    ⟨(effect' { v with st := (effect v).st }).st,
      (effect v).events ++ (effect' { v with st := (effect v).st }).events,
      (effect' { v with st := (effect v).st }).code⟩, ?_, ?_, ?_, ?_, ?_⟩
  · intro s hs
    have h1 := h.runs s hs
    have h2 := h'.runs (body s).1 (by rw [h1.hst]; exact h.power _ hs)
    rw [h1.view] at h2
    exact h1.trans h2
  · intro s hs
    have h1 := h.runs s hs
    have h2 := h'.code (body s).1 (by rw [h1.hst]; exact h.power _ hs)
    rw [h1.view] at h2
    exact h2
  · exact fun v hv => h'.power _ (h.power v hv)
  · exact fun v hv => h'.lattice { v with st := (effect v).st } (h.lattice v hv)
  · exact fun s => (h.environment s).trans (h'.environment _)

/-- A body may be chosen by CFG. -/
theorem perCfg {body : Cfg → State → State × StatusCode} (h : ∀ c, Lawful (body c)) :
    Lawful fun s => body s.cfg s := by
  choose effect h using h
  exact ⟨fun v => effect v.cfg v,
    { runs := fun s => (h s.cfg).runs s
      code := fun s => (h s.cfg).code s
      power := fun v => (h v.cfg).power v
      lattice := fun v => (h v.cfg).lattice v
      environment := fun s => (h s.cfg).environment s }⟩

/-- The bpp check of the grayscale operations (60_exceptions.md R154). -/
theorem withGreyFormat {body : Cfg → GreyFormat → State → State × StatusCode} (bpp : Byte)
    (h : ∀ c f, Lawful (body c f)) : Lawful fun s => s.withGreyFormat bpp fun f => body s.cfg f s := by
  refine perCfg (body := fun c s => match greyFormat c bpp with
    | none => (s, .noopBpp)
    | some f => body c f s) fun c => ?_
  cases greyFormat c bpp with
  | none => exact nothing .noopBpp
  | some f => exact h c f

/-! ### The refresh, power and mode operations -/

theorem fullRefresh : Lawful fun s => (s.fullRefresh, .ok) :=
  ⟨fun v => ⟨afterFullRefresh v.st, fullRefreshEvents v.cfg v.st, .ok⟩,
    { runs := fullRefresh_runs
      code := fun _ _ => rfl
      power := fun v h => by simpa using h
      lattice := fun _ => lattice_afterFullRefresh
      environment := fun s => (SameEnvironment.refl s).fullRefresh }⟩

/-- A region refresh is a no-op when no upgrade applies and the region is empty, and runs else (R123). -/
theorem regionRefresh (r : Rect) : Lawful fun s => s.regionRefresh r := by
  refine ⟨fun v =>
    if v.st.upgradesRegion = false ∧ alignRegion v.cfg r = none then ⟨v.st, [], .noopGeometry⟩
    else ⟨afterRegionRefresh v.st, regionRefreshEvents v.cfg v.st, .ok⟩, ?_, ?_, ?_, ?_, ?_⟩
  · intro s hs
    by_cases hc : s.st.upgradesRegion = false ∧ alignRegion s.cfg r = none
    · simp only [State.view, hc, and_self, if_true, regionRefresh_empty s r hc.1 hc.2]
      exact Runs.refl s
    · simp only [State.view, hc, if_false]
      exact (regionRefresh_runs_unless_noop hs hc).1
  · intro s hs
    by_cases hc : s.st.upgradesRegion = false ∧ alignRegion s.cfg r = none
    · simp only [State.view, hc, and_self, if_true, regionRefresh_empty s r hc.1 hc.2]
    · simp only [State.view, hc, if_false]
      exact (regionRefresh_runs_unless_noop hs hc).2
  · intro v hv
    split
    · exact hv
    · simpa using hv
  · intro v hv
    split
    · exact hv
    · exact lattice_afterRegionRefresh hv
  · exact fun s => (SameEnvironment.refl s).regionRefresh r

theorem refreshBody (onlyPart : Bool) : Lawful fun s => s.refreshBody onlyPart := by
  cases onlyPart with
  | false => exact fullRefresh
  | true => exact perCfg (body := fun c s => s.regionRefresh (panelRect c)) fun c => regionRefresh (panelRect c)

theorem powerOff : Lawful fun s => (s.powerOff, .ok) :=
  ⟨fun v => ⟨v.st, [], .ok⟩,
    { runs := fun s h => by rw [powerOff_eq s h]; exact Runs.refl s
      code := fun _ _ => rfl
      power := fun _ h => h
      lattice := fun _ h => h
      environment := fun s => (SameEnvironment.refl s).powerOff }⟩

/-- HIBERNATE without power: skipped without a reset line (R126). -/
theorem hibernateBody : Lawful fun s => s.hibernateBody := by
  have hbody : ∀ s : State, s.st.powerIsOn = false → s.hibernateBody =
      if s.cfg.hasResetLine then ((s.emit deepSleepEvents).withSt (afterHibernate s.st), .ok)
      else (s, .hibernateSkipped) := by
    intro s hs
    unfold State.hibernateBody
    rw [powerOff_eq s hs]
    rfl
  refine ⟨fun v => if v.cfg.hasResetLine then ⟨afterHibernate v.st, deepSleepEvents, .ok⟩
    else ⟨v.st, [], .hibernateSkipped⟩, ?_, ?_, ?_, ?_, ?_⟩
  · intro s hs
    rw [hbody s hs]
    cases hl : s.cfg.hasResetLine with
    | false => simpa [State.view, hl] using Runs.refl s
    | true => simpa [State.view, hl] using (Runs.emit s deepSleepEvents rfl).thenSt (afterHibernate s.st)
  · intro s hs
    rw [hbody s hs]
    cases hl : s.cfg.hasResetLine <;> simp [State.view, hl]
  · intro v hv
    split
    · exact hv
    · exact hv
  · intro v hv
    split
    · next hl => exact lattice_afterHibernate (lattice_powerIsOn hv) hl
    · exact hv
  · exact fun s => (SameEnvironment.refl s).hibernateBody

/-- A mode SET_REFRESH_MODE can select (R124). -/
theorem selectMode {mode : RefreshMode} (hm : mode ≠ .greyRefresh) :
    Lawful fun s => (s.withSt { s.st with refreshMode := mode }, .ok) :=
  ⟨fun v => ⟨{ v.st with refreshMode := mode }, [], .ok⟩,
    { runs := fun s _ => Runs.withSt s _
      code := fun _ _ => rfl
      power := fun _ h => h
      lattice := fun _ => lattice_setMode hm
      environment := fun s => (SameEnvironment.refl s).withSt _ }⟩

theorem setMode (mode : RefreshMode) : Lawful fun s => s.setMode mode := by
  cases mode with
  | forcedFullRefresh => exact selectMode (by decide)
  | fastRefresh => exact selectMode (by decide)
  | fullRefresh => exact nothing .noopReserved
  | greyRefresh => exact nothing .noopReserved

/-! ### The fills, the writes and the draws -/

theorem clearScreen (value : Byte) : Lawful fun s => (s.clearScreen value, .ok) :=
  ⟨fun v => ⟨afterClear v.st, clearEvents v.cfg v.st value, .ok⟩,
    { runs := fun s h => clearScreen_runs s h value
      code := fun _ _ => rfl
      power := fun v h => by simpa using h
      lattice := fun _ => lattice_afterClear
      environment := fun s => (SameEnvironment.refl s).clearScreen value }⟩

theorem fillBody (planes : List Plane) (value : Byte) : Lawful fun s => (s.fillBody planes value, .ok) :=
  ⟨fun v => ⟨afterEnsurePlain (afterRedirect v.st),
      redirectEvents v.cfg v.st value ++ ensurePlainEvents v.cfg (afterRedirect v.st) ++ fillEvents v.cfg planes value, .ok⟩,
    { runs := fun s h => fillBody_runs s h planes value
      code := fun _ _ => rfl
      power := fun v h => by simpa using h
      lattice := fun _ h => lattice_afterEnsurePlain (lattice_afterRedirect h)
      environment := fun s => (SameEnvironment.refl s).fillBody planes value }⟩

theorem monoBody (planes : List Plane) (plan : WritePlan) : Lawful fun s => (s.monoBody planes plan, .ok) :=
  ⟨fun v => ⟨afterEnsurePlain (afterRedirect v.st),
      redirectEvents v.cfg v.st v.cfg.initialFill ++ ensurePlainEvents v.cfg (afterRedirect v.st)
        ++ v.sent planes none plan.clip plan.src, .ok⟩,
    { runs := fun s h => monoBody_runs s h planes plan
      code := fun _ _ => rfl
      power := fun v h => by simpa using h
      lattice := fun _ h => lattice_afterEnsurePlain (lattice_afterRedirect h)
      environment := fun s => (SameEnvironment.refl s).monoBody planes plan }⟩

theorem greyBody (f : GreyFormat) (plan : WritePlan) : Lawful fun s => (s.greyBody f plan, .ok) :=
  ⟨fun v => ⟨afterEnsureGrey (afterRedirect v.st),
      redirectEvents v.cfg v.st v.cfg.initialFill ++ ensureGreyEvents v.cfg (afterRedirect v.st)
        ++ v.sent [.previous, .current] (some f) plan.clip plan.src, .ok⟩,
    { runs := fun s h => greyBody_runs s h f plan
      code := fun _ _ => rfl
      power := fun v h => by simpa using h
      lattice := fun _ h => lattice_afterEnsureGrey (lattice_afterRedirect h)
      environment := fun s => (SameEnvironment.refl s).greyBody f plan }⟩

theorem monoWrite (planes : List Plane) (plan : Cfg → Except StatusCode WritePlan) :
    Lawful fun s => s.monoWrite planes (plan s.cfg) := by
  refine perCfg (body := fun c s => s.monoWrite planes (plan c)) fun c => ?_
  cases plan c with
  | error code => exact nothing code
  | ok p => exact monoBody planes p

theorem greyWrite (f : GreyFormat) (plan : Except StatusCode WritePlan) : Lawful fun s => s.greyWrite f plan := by
  cases plan with
  | error code => exact nothing code
  | ok p => exact greyBody f p

/-- Write, region refresh, `Again` write (R143). -/
theorem monoDraw (plan : Cfg → Except StatusCode WritePlan) : Lawful fun s => s.monoDraw (plan s.cfg) := by
  refine perCfg (body := fun c s => s.monoDraw (plan c)) fun c => ?_
  cases plan c with
  | error code => exact nothing code
  | ok p => exact ((monoBody [.current] p).comp (regionRefresh p.region)).comp (monoBody [.previous, .current] p)

/-- Write, region refresh; the code of the refresh is dropped (R145). -/
theorem greyDraw (f : GreyFormat) (plan : Except StatusCode WritePlan) : Lawful fun s => s.greyDraw f plan := by
  cases plan with
  | error code => exact nothing code
  | ok p => exact ((greyBody f p).comp (regionRefresh p.region)).comp (nothing .ok)

end Lawful

/-! ### The instructions -/

/-- A whole operation in closed form: its result is a function of the view but for the answers taken. -/
theorem Implements.operate_eq {body : State → State × StatusCode} {effect : View → Effect} (hb : Implements body effect)
    {s : State} (hs : s.st.powerIsOn = false) :
    s.operate body
      = (s.start.ran (effect s.view).st (effect s.view).events).complete (effect s.view).code :=
  Machine.operate_eq (Prod.ext rfl (hb.code s.start hs)) (hb.runs s.start hs)

/-- Bits 6:0 of its status are its code (30_encoding.md R62). -/
theorem Implements.operate_status {body : State → State × StatusCode} {effect : View → Effect}
    (hb : Implements body effect) {s : State} (hs : s.st.powerIsOn = false) :
    (s.operate body).status &&& 0x7F = (effect s.view).code.toByte := by
  obtain ⟨-, -, -, -, -, -, -, -, -, hstatus, -⟩ :=
    operate_runs (Prod.ext rfl (hb.code s.start hs)) (hb.runs s.start hs)
  exact hstatus

/-- A request is one operation with a lawful body. -/
theorem exec_request {i : Instr} (h : isRequest i = true) :
    ∃ body, Lawful body ∧ ∀ s, exec i s = .next (s.operate body) := by
  cases i with
  | clearScreen value => exact ⟨_, .clearScreen value, fun _ => rfl⟩
  | writeScreenBuffer value => exact ⟨_, .fillBody [.current] value, fun _ => rfl⟩
  | writeScreenBufferAgain value => exact ⟨_, .fillBody [.previous, .current] value, fun _ => rfl⟩
  | writeImage b r => exact ⟨_, .monoWrite [.current] (planImage · 1 b r), fun _ => rfl⟩
  | writeImageAgain b r => exact ⟨_, .monoWrite [.previous, .current] (planImage · 1 b r), fun _ => rfl⟩
  | writeImagePart b p r => exact ⟨_, .monoWrite [.current] (planPart · 1 8 b p r), fun _ => rfl⟩
  | writeImagePartAgain b p r => exact ⟨_, .monoWrite [.previous, .current] (planPart · 1 8 b p r), fun _ => rfl⟩
  | writeImage4G bpp b r =>
    exact ⟨_, .withGreyFormat bpp fun c f => .greyWrite f (planImage c f.bpp b r), fun _ => rfl⟩
  | writeImagePart4G bpp b p r =>
    exact ⟨_, .withGreyFormat bpp fun c f => .greyWrite f (planPart c f.bpp f.ppb b p r), fun _ => rfl⟩
  | drawImage b r => exact ⟨_, .monoDraw (planImage · 1 b r), fun _ => rfl⟩
  | drawImagePart b p r => exact ⟨_, .monoDraw (planPart · 1 8 b p r), fun _ => rfl⟩
  | drawImage4G bpp b r =>
    exact ⟨_, .withGreyFormat bpp fun c f => .greyDraw f (planImage c f.bpp b r), fun _ => rfl⟩
  | drawImagePart4G bpp b p r =>
    exact ⟨_, .withGreyFormat bpp fun c f => .greyDraw f (planPart c f.bpp f.ppb b p r), fun _ => rfl⟩
  | refresh onlyPart => exact ⟨_, .refreshBody onlyPart, fun _ => rfl⟩
  | refreshRegion r => exact ⟨_, .regionRefresh (rectOf r), fun _ => rfl⟩
  | powerOff => exact ⟨_, .powerOff, fun _ => rfl⟩
  | hibernate => exact ⟨_, .hibernateBody, fun _ => rfl⟩
  | setRefreshMode mode => exact ⟨_, .setMode mode, fun _ => rfl⟩
  | reserved opcode => exact ⟨_, .nothing .noopReserved, fun _ => rfl⟩
  | _ => cases h

/-- Every other instruction is a lone command: its events, and nothing else (log 10). -/
theorem exec_command {i : Instr} (h : isRequest i = false) (s : State) : ∃ es, exec i s = .next (s.drive es) := by
  cases i <;> cases h <;> exact ⟨_, rfl⟩

/-- A presented encoding is refused, or accepted as an instruction. -/
theorem intake_cases (s : State) (e : Encoded) :
    (∃ r, s.intake e = .stop r) ∨ ∃ i, s.intake e = .instruction i (s.accept e) := by
  unfold State.intake
  split
  · exact .inl ⟨_, rfl⟩
  · split
    · exact .inr ⟨_, rfl⟩
    · exact .inl ⟨_, rfl⟩

/-- What a step that is not refused was (60_exceptions.md R163): nothing, a reset, a store of the host, or an instruction
accepted in a state that keeps all but the port and the latch. -/
theorem step_cases {s t : State} (h : step s = .next t) :
    t = s ∨ (∃ rest, t = (s.served rest).applyReset) ∨
    (∃ space address byte rest, s.engine = .idle ∧ t = (s.served rest).hostStore space address byte) ∨
    ∃ i e rest, s.engine = .idle ∧ exec i ((s.served rest).accept e) = .next t := by
  unfold step fetch at h
  cases hp : s.port with
  | nil =>
    rw [hp] at h
    cases h
    exact .inl rfl
  | cons input rest =>
    rw [hp] at h
    cases input with
    | reset =>
      cases h
      exact .inr (.inl ⟨rest, rfl⟩)
    | store space address byte =>
      cases he : s.engine with
      | running => simp [he] at h
      | idle =>
        simp only [he, Host.Outcome.next.injEq] at h
        exact .inr (.inr (.inl ⟨space, address, byte, rest, rfl, h.symm⟩))
    | submit e =>
      cases he : s.engine with
      | running => simp [he] at h
      | idle =>
        simp only [he] at h
        rcases intake_cases (s.served rest) e with ⟨r, hi⟩ | ⟨i, hi⟩
        · simp [hi] at h
        · simp only [hi] at h
          exact .inr (.inr (.inr ⟨i, e, rest, rfl, h⟩))

end Sys2Proof.Machine
end

section
/-! The statements of the scope family. -/

namespace Sys2Proof.Safety

open Sys2Proof.Machine

/-! ### The boundary invariant -/

theorem atBoundary_iff {s : State} :
    atBoundary s = true ↔ s.engine = .idle ∧ s.st.lattice s.cfg = true ∧ s.status &&& 0x70 = 0 ∧
      ∀ space, Memory.wf (s.memory space) = true := by
  have hm : (∀ space, Memory.wf (s.memory space) = true) ↔
      Memory.wf s.srcFast = true ∧ Memory.wf s.srcSlow = true :=
    ⟨fun h => ⟨h .fast, h .slow⟩, fun h space => by cases space <;> simp [State.memory, h]⟩
  simp [atBoundary, hm, and_assoc]

/-- A status whose bits 6:0 are a completion code has its bits 6:4 zero (30_encoding.md R62). -/
theorem status_reserved_bits {status : Byte} {code : StatusCode} (h : status &&& 0x7F = code.toByte) :
    status &&& 0x70 = 0 := by
  calc status &&& 0x70 = (status &&& 0x7F) &&& 0x70 := by rw [BitVec.and_assoc]; rfl
    _ = code.toByte &&& 0x70 := by rw [h]
    _ = 0 := by cases code <;> rfl

/-- A lawful operation leads from a boundary to a boundary. -/
theorem operate_atBoundary {s : State} {body : State → State × StatusCode} (hb : Lawful body)
    (hs : atBoundary s = true) : atBoundary (s.operate body) = true ∧ (s.operate body).cfg = s.cfg := by
  obtain ⟨effect, hb⟩ := hb
  obtain ⟨-, hlat, -, hwf⟩ := atBoundary_iff.1 hs
  have hoff := lattice_powerIsOn hlat
  have heq := hb.operate_eq hoff
  refine ⟨atBoundary_iff.2 ⟨rfl, ?_, status_reserved_bits (hb.operate_status hoff), ?_⟩, by rw [heq]; rfl⟩
  · rw [heq]
    exact hb.lattice s.view hlat
  · rw [heq]
    exact hwf

/-- Every instruction does, a lone command because it changes the events only. -/
theorem exec_atBoundary {i : Instr} {s t : State} (hs : atBoundary s = true) (h : exec i s = .next t) :
    atBoundary t = true ∧ t.cfg = s.cfg := by
  cases hi : isRequest i with
  | false =>
    obtain ⟨es, he⟩ := exec_command hi s
    rw [he] at h
    cases h
    exact ⟨hs, rfl⟩
  | true =>
    obtain ⟨body, hb, he⟩ := exec_request hi
    rw [he] at h
    cases h
    exact operate_atBoundary hb hs

/-- Settles O11: the invariant is kept by each of the four kinds of step. -/
theorem stepKeepsBoundary : Obligations.StepKeepsBoundary := by
  unfold Obligations.StepKeepsBoundary
  intro s t hs hok hstep
  obtain ⟨hidle, hlat, hstatus, hwf⟩ := atBoundary_iff.1 hs
  rcases step_cases hstep with rfl | ⟨rest, rfl⟩ | ⟨space, address, byte, rest, -, rfl⟩ | ⟨i, e, rest, -, he⟩
  · exact ⟨hs, rfl⟩
  · exact ⟨atBoundary_iff.2 ⟨rfl, lattice_afterReset hok, BitVec.zero_and, hwf⟩, rfl⟩
  · have hstored : ∀ space', Memory.wf (((s.served rest).hostStore space address byte).memory space') = true :=
      fun space' => hostStore_wf (s.served rest) space space' address byte (hwf space')
    cases space with
    | fast => exact ⟨atBoundary_iff.2 ⟨hidle, hlat, hstatus, hstored⟩, rfl⟩
    | slow => exact ⟨atBoundary_iff.2 ⟨hidle, hlat, hstatus, hstored⟩, rfl⟩
  · cases e with
    | request d => exact exec_atBoundary (s := (s.served rest).accept (.request d)) hs he
    | command bytes => exact exec_atBoundary (s := s.served rest) hs he

/-! ### Noninterference of the busy-wait answers -/

/-- Settles O18: a request's effect is a function of the view, which holds no answer. -/
theorem busyAnswersReachStatusOnly : Obligations.BusyAnswersReachStatusOnly := by
  unfold Obligations.BusyAnswersReachStatusOnly
  intro i s s' hi hs hss
  obtain ⟨body, ⟨effect, hb⟩, he⟩ := exec_request hi
  have hs' : s'.st.powerIsOn = false := by rw [hss.st]; exact hs
  have hview : s'.view = s.view := view_of_sameButAnswers hss
  have ht := hb.operate_eq hs
  have ht' := hb.operate_eq hs'
  have hstatus := hb.operate_status hs
  have hstatus' := hb.operate_status hs'
  rw [hview] at ht' hstatus'
  refine ⟨_, _, he s, he s', ?_, hstatus.trans hstatus'.symm⟩
  rw [ht, ht']
  exact
    { st := rfl
      engine := rfl
      latch := hss.latch
      done := rfl
      events := rfl
      cfg := hss.cfg
      srcFast := hss.srcFast
      srcSlow := hss.srcSlow
      port := hss.port
      epoch := congrArg (· + 1) hss.epoch }

/-! ### What no instruction writes -/

/-- Settles O12: no body writes the environment, and neither do the start and the end of an operation or a lone command. -/
theorem nothingElseWritten : Obligations.NothingElseWritten := by
  unfold Obligations.NothingElseWritten
  intro i s t h
  cases hi : isRequest i with
  | false =>
    obtain ⟨es, he⟩ := exec_command hi s
    rw [he] at h
    cases h
    exact .drive s es
  | true =>
    obtain ⟨body, ⟨effect, hb⟩, he⟩ := exec_request hi
    rw [he] at h
    cases h
    exact .operate (hb.environment s.start)

end Sys2Proof.Safety
end

section
/-! The state family (10_state.md). First which events pulse the reset line: no event list of the machine does but the wake
of an initialization (R56, R113, R114). -/

namespace Sys2Proof.Machine

@[simp] theorem resetLine_notMem_commandEvents (code : Byte) (parameters : List Byte) :
    Event.resetLine ∉ commandEvents code parameters := by
  simp [commandEvents]

@[simp] theorem resetLine_notMem_seqEvents (c : Cfg) (items : List SeqItem) : Event.resetLine ∉ seqEvents c items := by
  have hitem : ∀ item, Event.resetLine ∉ itemEvents c item := fun item => by cases item <;> simp [itemEvents]
  simp [seqEvents, hitem]

@[simp] theorem resetLine_notMem_updateFullEvents (c : Cfg) : Event.resetLine ∉ updateFullEvents c := by
  simp [updateFullEvents, powerOnEvents]

@[simp] theorem resetLine_notMem_updateGreyEvents (c : Cfg) : Event.resetLine ∉ updateGreyEvents c := by
  simp [updateGreyEvents, powerOnEvents]

@[simp] theorem resetLine_notMem_updatePartEvents (c : Cfg) : Event.resetLine ∉ updatePartEvents c := by
  simp [updatePartEvents]

@[simp] theorem resetLine_notMem_planeBlock (c : Cfg) (plane : Plane) (sub : SubRect) (bytes : List Byte) :
    Event.resetLine ∉ planeBlock c plane sub bytes := by
  simp [planeBlock, windowOf, setWindow, entryModeEvents, xRangeEvents, yRangeEvents, xCounterEvents, yCounterEvents,
    planeCommand, transfer]

@[simp] theorem resetLine_notMem_fillEvents (c : Cfg) (planes : List Plane) (value : Byte) :
    Event.resetLine ∉ fillEvents c planes value := by
  simp [fillEvents]

@[simp] theorem resetLine_notMem_writeEvents (s : State) (planes : List Plane) (format : Option GreyFormat) (clip : Clip)
    (src : SourceView) : Event.resetLine ∉ s.writeEvents planes format clip src := by
  simp [State.writeEvents]

/-- The wake is the only source of a Reset, and only a hibernating device is woken. -/
theorem hibernating_of_resetLine_mem_wake {c : Cfg} {hibernating : Bool} {items : List SeqItem}
    (h : Event.resetLine ∈ wakeEvents c hibernating ++ seqEvents c items) : hibernating = true := by
  cases hibernating with
  | true => rfl
  | false => simp [wakeEvents] at h

/-- A lone command drives one command byte and its parameters (30_encoding.md R57; log 10). -/
theorem exec_command_eq {i : Instr} (h : Safety.isRequest i = false) (s : State) :
    ∃ code parameters, exec i s = .next (s.drive (commandEvents code parameters)) := by
  cases i with
  | cmdWriteCurrent t => exact ⟨_, [], rfl⟩
  | cmdWritePrevious t => exact ⟨_, [], rfl⟩
  | _ => cases h <;> exact ⟨_, _, rfl⟩

end Sys2Proof.Machine
end

section
/-! What the procedures do to the seven fields, from their elementary writes: the two initializations and the clearing of the
two pending bits. Every request but HIBERNATE and SET_REFRESH_MODE is a run of such writes, so what each of the four keeps
(10_state.md R11, R15, R17, R21) is kept by all of them. -/

namespace Sys2Proof.Machine

open Sys2Proof.Safety

/-- A run of elementary writes between two values of the seven fields, with the events emitted on the way. Among the writes
may be the grayscale initialization only if `grey` holds. -/
inductive Transition (c : Cfg) (grey : Bool) : DcpState → List Event → DcpState → Prop where
  /-- Events without a Reset, and no write. -/
  | send (st : DcpState) {es : List Event} (h : Event.resetLine ∉ es) : Transition c grey st es st
  /-- InitPlain (43_refresh_fsm.md R113). -/
  | initPlain (st : DcpState) : Transition c grey st (initPlainEvents c st.hibernating) (afterInitPlain st)
  /-- InitGrey (43_refresh_fsm.md R114). -/
  | initGrey (st : DcpState) (h : grey = true) :
      Transition c grey st (initGreyEvents c st.hibernating) (afterInitGrey st)
  /-- The end of FullRefresh (43_refresh_fsm.md R121). -/
  | clearRefreshPending (st : DcpState) : Transition c grey st [] { st with initialRefreshPending := false }
  /-- The end of ClearScreen (44_write_ops.md R133). -/
  | clearWritePending (st : DcpState) : Transition c grey st [] { st with initialWritePending := false }
  /-- One run after another. -/
  | trans {st st' st'' : DcpState} {es es' : List Event} :
      Transition c grey st es st' → Transition c grey st' es' st'' → Transition c grey st (es ++ es') st''

namespace Transition

variable {c : Cfg} {grey : Bool} {st st' : DcpState} {es es' : List Event}

theorem refl (st : DcpState) : Transition c grey st [] st := send st (by simp)

theorem thenSend (h : Transition c grey st es st') (hes : Event.resetLine ∉ es') :
    Transition c grey st (es ++ es') st' := h.trans (send st' hes)

theorem thenClearRefreshPending (h : Transition c grey st es st') :
    Transition c grey st es { st' with initialRefreshPending := false } := by
  simpa using h.trans (clearRefreshPending st')

theorem thenClearWritePending (h : Transition c grey st es st') :
    Transition c grey st es { st' with initialWritePending := false } := by
  simpa using h.trans (clearWritePending st')

/-! ### The procedures in closed form -/

theorem ensurePlain (st : DcpState) : Transition c grey st (ensurePlainEvents c st) (afterEnsurePlain st) := by
  unfold ensurePlainEvents afterEnsurePlain
  split
  · exact refl st
  · exact initPlain st

theorem ensureGrey (st : DcpState) (h : grey = true) :
    Transition c grey st (ensureGreyEvents c st) (afterEnsureGrey st) := by
  unfold ensureGreyEvents afterEnsureGrey
  split
  · exact refl st
  · exact initGrey st h

theorem fullRefresh (st : DcpState) : Transition c grey st (fullRefreshEvents c st) (afterFullRefresh st) := by
  unfold fullRefreshEvents afterFullRefresh
  split
  · exact ((initPlain st).thenSend (by simp)).thenClearRefreshPending
  · refine (send st ?_).thenClearRefreshPending
    split <;> simp

theorem clear (st : DcpState) (value : Byte) : Transition c grey st (clearEvents c st value) (afterClear st) :=
  (((ensurePlain st).thenSend (by simp)).trans (fullRefresh _)).thenClearWritePending

theorem redirect (st : DcpState) (value : Byte) :
    Transition c grey st (redirectEvents c st value) (afterRedirect st) := by
  unfold redirectEvents afterRedirect
  split
  · exact clear st value
  · exact refl st

theorem regionRefresh (st : DcpState) : Transition c grey st (regionRefreshEvents c st) (afterRegionRefresh st) := by
  unfold regionRefreshEvents afterRegionRefresh
  split
  · exact fullRefresh st
  · split
    · exact (initPlain st).thenSend (by simp)
    · exact send st (by simp)

/-! ### What every run keeps -/

theorem powerIsOn (h : Transition c grey st es st') : st'.powerIsOn = st.powerIsOn := by
  induction h with
  | send | initPlain | initGrey | clearRefreshPending | clearWritePending => rfl
  | trans _ _ ih ih' => exact ih'.trans ih

/-- No run puts the device to sleep. -/
theorem hibernating (h : Transition c grey st es st') (hh : st'.hibernating = true) : st.hibernating = true := by
  induction h with
  | send | clearRefreshPending | clearWritePending => exact hh
  | initPlain | initGrey => cases hh
  | trans _ _ ih ih' => exact ih (ih' hh)

/-- A run that emits a Reset woke the device (43_refresh_fsm.md R113, R114). -/
theorem resetLine (h : Transition c grey st es st') (hr : Event.resetLine ∈ es) : st.hibernating = true := by
  induction h with
  | send _ hes => exact absurd hr hes
  | initPlain | initGrey => exact hibernating_of_resetLine_mem_wake hr
  | clearRefreshPending | clearWritePending => cases hr
  | trans h _ ih ih' =>
    rcases List.mem_append.1 hr with hr | hr
    · exact ih hr
    · exact h.hibernating (ih' hr)

/-- No run sets initial_write_pending (10_state.md R15). -/
theorem initialWritePending (h : Transition c grey st es st') (hp : st.initialWritePending = false) :
    st'.initialWritePending = false := by
  induction h with
  | send | initPlain | initGrey | clearRefreshPending => exact hp
  | clearWritePending => rfl
  | trans _ _ ih ih' => exact ih' (ih hp)

/-- No run sets initial_refresh_pending (10_state.md R17). -/
theorem initialRefreshPending (h : Transition c grey st es st') (hp : st.initialRefreshPending = false) :
    st'.initialRefreshPending = false := by
  induction h with
  | send | initPlain | initGrey | clearWritePending => exact hp
  | clearRefreshPending => rfl
  | trans _ _ ih ih' => exact ih' (ih hp)

/-- The mode and the flags of the initializations are those of the last initialization of the run, if there is one
(10_state.md R11, 43_refresh_fsm.md R110). -/
theorem mode (h : Transition c grey st es st') :
    (st'.refreshMode = st.refreshMode ∧ st'.displayInitialized = st.displayInitialized ∧
      st'.grayscaleInitialized = st.grayscaleInitialized) ∨
    (st'.refreshMode = .fullRefresh ∧ st'.displayInitialized = true ∧ st'.grayscaleInitialized = false) ∨
    (st'.refreshMode = .greyRefresh ∧ grey = true ∧ st'.grayscaleInitialized = true ∧
      st'.displayInitialized = false) := by
  induction h with
  | send | clearRefreshPending | clearWritePending => exact .inl ⟨rfl, rfl, rfl⟩
  | initPlain => exact .inr (.inl ⟨rfl, rfl, rfl⟩)
  | initGrey _ hg => exact .inr (.inr ⟨rfl, hg, rfl, rfl⟩)
  | trans _ _ ih ih' =>
    rcases ih' with ⟨hmode, hplain, hgrey⟩ | hlast
    · rw [hmode, hplain, hgrey]
      exact ih
    · exact .inr hlast

end Transition

/-! ### The bodies of the requests -/

/-- `t` is `s` after a body whose effect on the seven fields is a transition. -/
def Follows (grey : Bool) (s t : State) : Prop :=
  ∃ st es, Runs s t st es ∧ Transition s.cfg grey s.st es st

namespace Follows

variable {grey : Bool} {s t u : State}

theorem refl (s : State) : Follows grey s s := ⟨_, _, Runs.refl s, .refl s.st⟩

theorem trans (h : Follows grey s t) (h' : Follows grey t u) : Follows grey s u := by
  obtain ⟨st, es, hr, ht⟩ := h
  obtain ⟨st', es', hr', ht'⟩ := h'
  rw [hr.hst, hr.hcfg] at ht'
  exact ⟨st', es ++ es', hr.trans hr', ht.trans ht'⟩

theorem powerIsOn (h : Follows grey s t) : t.st.powerIsOn = s.st.powerIsOn := by
  obtain ⟨st, es, hr, ht⟩ := h
  rw [hr.hst]
  exact ht.powerIsOn

/-- A whole operation: its start and its completion touch neither the fields nor, once started, the events. -/
theorem operate {body : State → State × StatusCode} (h : Follows grey s.start (body s.start).1) :
    Transition s.cfg grey s.st (s.operate body).events (s.operate body).st := by
  obtain ⟨st, es, hr, ht⟩ := h
  have hevents : (s.operate body).events = es := hr.hevents
  have hst : (s.operate body).st = st := hr.hst
  rw [hevents, hst]
  exact ht

theorem fullRefresh (hs : s.st.powerIsOn = false) : Follows grey s s.fullRefresh :=
  ⟨_, _, fullRefresh_runs s hs, .fullRefresh s.st⟩

theorem regionRefresh (hs : s.st.powerIsOn = false) (r : Rect) : Follows grey s (s.regionRefresh r).1 := by
  by_cases hc : s.st.upgradesRegion = false ∧ alignRegion s.cfg r = none
  · obtain ⟨hupgrades, hempty⟩ := hc
    rw [regionRefresh_empty s r hupgrades hempty]
    exact refl s
  · obtain ⟨hr, -⟩ := regionRefresh_runs_unless_noop hs hc
    exact ⟨_, _, hr, .regionRefresh s.st⟩

theorem refreshBody (hs : s.st.powerIsOn = false) (onlyPart : Bool) : Follows grey s (s.refreshBody onlyPart).1 := by
  cases onlyPart with
  | false => exact fullRefresh hs
  | true => exact regionRefresh hs (panelRect s.cfg)

theorem powerOff (hs : s.st.powerIsOn = false) : Follows grey s s.powerOff := by
  rw [powerOff_eq s hs]
  exact refl s

theorem clearScreen (hs : s.st.powerIsOn = false) (value : Byte) : Follows grey s (s.clearScreen value) :=
  ⟨_, _, clearScreen_runs s hs value, .clear s.st value⟩

theorem fillBody (hs : s.st.powerIsOn = false) (planes : List Plane) (value : Byte) :
    Follows grey s (s.fillBody planes value) :=
  ⟨_, _, fillBody_runs s hs planes value, ((Transition.redirect _ _).trans (.ensurePlain _)).thenSend (by simp)⟩

theorem monoBody (hs : s.st.powerIsOn = false) (planes : List Plane) (plan : WritePlan) :
    Follows grey s (s.monoBody planes plan) :=
  ⟨_, _, monoBody_runs s hs planes plan, ((Transition.redirect _ _).trans (.ensurePlain _)).thenSend (by simp)⟩

theorem greyBody (hs : s.st.powerIsOn = false) (f : GreyFormat) (plan : WritePlan) :
    Follows true s (s.greyBody f plan) :=
  ⟨_, _, greyBody_runs s hs f plan, ((Transition.redirect _ _).trans (.ensureGrey _ rfl)).thenSend (by simp)⟩

theorem monoWrite (hs : s.st.powerIsOn = false) (planes : List Plane) (plan : Except StatusCode WritePlan) :
    Follows grey s (s.monoWrite planes plan).1 := by
  cases plan with
  | error code => exact refl s
  | ok p => exact monoBody hs planes p

theorem greyWrite (hs : s.st.powerIsOn = false) (f : GreyFormat) (plan : Except StatusCode WritePlan) :
    Follows true s (s.greyWrite f plan).1 := by
  cases plan with
  | error code => exact refl s
  | ok p => exact greyBody hs f p

/-- Write, region refresh, `Again` write (R143). -/
theorem monoDraw (hs : s.st.powerIsOn = false) (plan : Except StatusCode WritePlan) :
    Follows grey s (s.monoDraw plan).1 := by
  cases plan with
  | error code => exact refl s
  | ok p =>
    have hwrite : Follows grey s (s.monoBody [.current] p) := monoBody hs [.current] p
    have hshown := hwrite.trans (regionRefresh (hwrite.powerIsOn.trans hs) p.region)
    exact hshown.trans (monoBody (hshown.powerIsOn.trans hs) [.previous, .current] p)

/-- Write, region refresh (R145). -/
theorem greyDraw (hs : s.st.powerIsOn = false) (f : GreyFormat) (plan : Except StatusCode WritePlan) :
    Follows true s (s.greyDraw f plan).1 := by
  cases plan with
  | error code => exact refl s
  | ok p =>
    have hwrite := greyBody hs f p
    exact hwrite.trans (regionRefresh (hwrite.powerIsOn.trans hs) p.region)

theorem withGreyFormat (bpp : Byte) {body : GreyFormat → State × StatusCode} (h : ∀ f, Follows grey s (body f).1) :
    Follows grey s (s.withGreyFormat bpp body).1 := by
  unfold State.withGreyFormat
  cases greyFormat s.cfg bpp with
  | none => exact refl s
  | some f => exact h f

end Follows

/-! ### The instructions -/

/-- HIBERNATE from a state without power falls asleep, or is skipped (43_refresh_fsm.md R126). -/
theorem exec_hibernate {s t : State} (hs : s.st.powerIsOn = false) (h : exec .hibernate s = .next t) :
    (t.st = s.st ∧ t.events = []) ∨ (t.st = afterHibernate s.st ∧ t.events = deepSleepEvents) := by
  have ht : s.operate (fun s => s.hibernateBody) = t := Host.Outcome.next.inj h
  subst ht
  have hbody : s.start.hibernateBody =
      if s.cfg.hasResetLine then ((s.start.emit deepSleepEvents).withSt (afterHibernate s.st), .ok)
      else (s.start, .hibernateSkipped) := by
    unfold State.hibernateBody
    rw [powerOff_eq s.start hs]
    rfl
  simp only [State.operate, hbody]
  split
  · exact .inr ⟨rfl, rfl⟩
  · exact .inl ⟨rfl, rfl⟩

/-- SET_REFRESH_MODE of a mode it can select writes the mode, and does nothing else (43_refresh_fsm.md R124). -/
theorem exec_setRefreshMode {mode : RefreshMode} {s t : State} (h : exec (.setRefreshMode mode) s = .next t) :
    t.events = [] ∧ (t.st = s.st ∨
      (mode = .forcedFullRefresh ∨ mode = .fastRefresh) ∧ t.st = { s.st with refreshMode := mode }) := by
  have ht : s.operate (fun s => s.setMode mode) = t := Host.Outcome.next.inj h
  subst ht
  cases mode with
  | fullRefresh => exact ⟨rfl, .inl rfl⟩
  | greyRefresh => exact ⟨rfl, .inl rfl⟩
  | forcedFullRefresh => exact ⟨rfl, .inr ⟨.inl rfl, rfl⟩⟩
  | fastRefresh => exact ⟨rfl, .inr ⟨.inr rfl, rfl⟩⟩

/-- What an instruction from a state without power can do to the seven fields: a run of elementary writes, among them the
grayscale initialization only if it is a grayscale operation; the sleep of HIBERNATE; or the mode of SET_REFRESH_MODE. -/
theorem exec_fields {i : Instr} {s t : State} (hs : s.st.powerIsOn = false) (h : exec i s = .next t) :
    Transition s.cfg (isGrey i) s.st t.events t.st ∨
    (t.st = afterHibernate s.st ∧ t.events = deepSleepEvents) ∨
    ∃ mode, (mode = .forcedFullRefresh ∨ mode = .fastRefresh) ∧ i = .setRefreshMode mode ∧
      t.st = { s.st with refreshMode := mode } ∧ t.events = [] := by
  have hrun : ∀ {body : State → State × StatusCode}, exec i s = .next (s.operate body) →
      Follows (isGrey i) s.start (body s.start).1 → Transition s.cfg (isGrey i) s.st t.events t.st := by
    intro body he hf
    cases h.symm.trans he
    exact hf.operate
  have hcommand : isRequest i = false → Transition s.cfg (isGrey i) s.st t.events t.st := by
    intro hi
    obtain ⟨code, parameters, he⟩ := exec_command_eq hi s
    cases h.symm.trans he
    exact .send s.st (resetLine_notMem_commandEvents code parameters)
  have hstart : s.start.st.powerIsOn = false := hs
  cases i with
  | clearScreen value => exact .inl (hrun rfl (.clearScreen hstart value))
  | writeScreenBuffer value => exact .inl (hrun rfl (.fillBody hstart _ value))
  | writeScreenBufferAgain value => exact .inl (hrun rfl (.fillBody hstart _ value))
  | writeImage | writeImageAgain | writeImagePart | writeImagePartAgain => exact .inl (hrun rfl (.monoWrite hstart _ _))
  | drawImage | drawImagePart => exact .inl (hrun rfl (.monoDraw hstart _))
  | writeImage4G bpp | writeImagePart4G bpp => exact .inl (hrun rfl (.withGreyFormat bpp fun f => .greyWrite hstart f _))
  | drawImage4G bpp | drawImagePart4G bpp => exact .inl (hrun rfl (.withGreyFormat bpp fun f => .greyDraw hstart f _))
  | refresh onlyPart => exact .inl (hrun rfl (.refreshBody hstart onlyPart))
  | refreshRegion r => exact .inl (hrun rfl (.regionRefresh hstart (rectOf r)))
  | powerOff => exact .inl (hrun rfl (.powerOff hstart))
  | reserved => exact .inl (hrun rfl (.refl _))
  | hibernate =>
    rcases exec_hibernate hs h with ⟨hst, hevents⟩ | hasleep
    · rw [hst, hevents]
      exact .inl (.refl s.st)
    · exact .inr (.inl hasleep)
  | setRefreshMode mode =>
    obtain ⟨hevents, hst | ⟨hmode, hst⟩⟩ := exec_setRefreshMode h
    · rw [hst, hevents]
      exact .inl (.refl s.st)
    · exact .inr (.inr ⟨mode, hmode, rfl, hst, hevents⟩)
  | _ => exact .inl (hcommand rfl)

end Sys2Proof.Machine
end

section
/-! One step from each input of the port (60_exceptions.md R163; 70_reset_and_hazards.md R172). -/

namespace Sys2Proof.Machine

open Sys2Proof.Safety

/-- A reset is served whatever the engine does. -/
theorem step_reset {s : State} {rest : List Input} (hp : s.port = .reset :: rest) :
    step s = .next (s.served rest).applyReset := by
  simp [step, fetch, hp]

/-- An encoded instruction runs in the state that has accepted it. -/
theorem step_submit {s : State} {e : Encoded} {rest : List Input} {i : Instr} (hp : s.port = .submit e :: rest)
    (hidle : s.engine = .idle) (hok : s.cfg.ok = true) (hd : decode s.cfg e = .ok i) :
    step s = exec i ((s.served rest).accept e) := by
  simp [step, fetch, State.intake, hp, hidle, hok, hd]

/-- Every instruction answers a next state: no fault and no refusal (60_exceptions.md R150). -/
theorem exec_total (i : Instr) (s : State) : ∃ t, exec i s = .next t := by
  cases hi : isRequest i with
  | false =>
    obtain ⟨es, he⟩ := exec_command hi s
    exact ⟨_, he⟩
  | true =>
    obtain ⟨body, -, he⟩ := exec_request hi
    exact ⟨_, he s⟩

end Sys2Proof.Machine
end

section
/-! The statements of the state family. -/

namespace Sys2Proof.Safety

open Sys2Proof.Machine

/-! ### The seven fields -/

/-- Settles O14: neither a run of elementary writes nor a sleep nor a selected mode gives another mode than those listed. -/
theorem modeChangesOnlyAsListed : Obligations.ModeChangesOnlyAsListed := by
  unfold Obligations.ModeChangesOnlyAsListed
  intro i s t hs h hchanged
  rcases exec_fields hs h with hrun | ⟨hasleep, -⟩ | ⟨mode, hmode, hi, hst, -⟩
  · rcases hrun.mode with ⟨hkept, -, -⟩ | hplain | hgrey
    · exact absurd hkept hchanged
    · exact .inl hplain
    · exact .inr (.inl hgrey)
  · rw [hasleep] at hchanged
    exact absurd rfl hchanged
  · rw [hst]
    rcases hmode with rfl | rfl
    · exact .inr (.inr (.inl ⟨hi, rfl⟩))
    · exact .inr (.inr (.inr ⟨hi, rfl⟩))

/-- Settles O13: the elementary writes only clear the two bits, and a sleep and a selected mode leave them. -/
theorem pendingFlagsOnlyCleared : Obligations.PendingFlagsOnlyCleared := by
  unfold Obligations.PendingFlagsOnlyCleared
  intro i s t hs h
  rcases exec_fields hs h with hrun | ⟨hasleep, -⟩ | ⟨mode, -, -, hst, -⟩
  · exact ⟨hrun.initialWritePending, hrun.initialRefreshPending⟩
  · rw [hasleep]
    exact ⟨id, id⟩
  · rw [hst]
    exact ⟨id, id⟩

/-- Settles O15: only a hibernating device is woken by a Reset, and none hibernates without a reset line (R21). -/
theorem resetEventNeedsResetLine : Obligations.ResetEventNeedsResetLine := by
  unfold Obligations.ResetEventNeedsResetLine
  intro i s t hlat h hr
  obtain ⟨-, hline, -, hs⟩ := lattice_iff.1 hlat
  rcases exec_fields hs h with hrun | ⟨-, hevents⟩ | ⟨mode, -, -, -, hevents⟩
  · obtain ⟨-, -, hreset⟩ := hline (hrun.resetLine hr)
    exact hreset
  · rw [hevents] at hr
    exact absurd hr (resetLine_notMem_commandEvents _ _)
  · rw [hevents] at hr
    cases hr

/-! ### The step and the latch -/

/-- Settles O5: fetch takes the input, and intake accepts it because CFG is admissible and it decodes. -/
theorem stepRunsDecodedInstruction : Obligations.StepRunsDecodedInstruction := by
  unfold Obligations.StepRunsDecodedInstruction
  intro s e rest i hp hidle hok hd
  exact step_submit hp hidle hok hd

/-- Settles O7: a request is latched when it is accepted, and its instruction writes neither the latch nor the port (O12). -/
theorem requestLatchedAndHeld : Obligations.RequestLatchedAndHeld := by
  unfold Obligations.RequestLatchedAndHeld
  intro s d rest hp hidle hok
  obtain ⟨t, ht⟩ := exec_total (decodeRequest d) ((s.served rest).accept (.request d))
  have hkept := nothingElseWritten _ _ _ ht
  exact ⟨t, (step_submit hp hidle hok rfl).trans ht, hkept.latch, hkept.port⟩

/-! ### Reset -/

/-- Settles O9: a reset input is served as applyReset, in every state. -/
theorem resetValues : Obligations.ResetValues := by
  unfold Obligations.ResetValues
  refine ⟨fun s rest hp => ⟨_, step_reset hp, rfl, rfl, rfl, rfl, fun space => ?_, rfl⟩, rfl, rfl, rfl⟩
  cases space <;> rfl

/-- Settles O10: an admissible CFG whose reset leaves the device asleep has a reset line; no other line of R21 reads CFG. -/
theorem boundaryHoldsAtReset : Obligations.BoundaryHoldsAtReset := by
  unfold Obligations.BoundaryHoldsAtReset
  have hreset : ∀ c : Cfg, c.ok = true → atBoundary (State.resetWith c) = true := fun c hc =>
    atBoundary_iff.2 ⟨rfl, lattice_afterReset hc, BitVec.zero_and, fun space => by cases space <;> rfl⟩
  exact ⟨hreset Config.cfgT (by decide), hreset⟩

end Sys2Proof.Safety
end

section
/-! The memory family (20_memory.md). First where the sub-rectangles of a partition lie on the panel and in the RAM of their
controller (40_partitioner.md R73 to R78). -/

namespace Sys2Proof.Machine

open Sys2Proof.Safety

/-- The panel's numbers (00_scope.md R5). -/
theorem panel_bounds {c : Cfg} (h : c.geometryOk = true) :
    panelWidth c % 16 = 0 ∧ 16 ≤ panelWidth c ∧ panelWidth c ≤ 4096 ∧
      panelHeight c % 2 = 0 ∧ 2 ≤ panelHeight c ∧ panelHeight c ≤ 32766 := by
  simp only [Cfg.geometryOk, Bool.and_eq_true, beq_iff_eq, decide_eq_true_eq] at h
  unfold panelWidth panelHeight
  omega

/-- The global column of a sub-rectangle's left edge, from its source offset (R76). -/
def SubRect.left (clip : Clip) (sub : SubRect) : Int := clip.rect.x + (sub.sdx - clip.dx)

/-- The global row of a sub-rectangle's top edge, from its source offset (R76). -/
def SubRect.top (clip : Clip) (sub : SubRect) : Int := clip.rect.y + (sub.sdy - clip.dy)

/-- Where a sub-rectangle lies: inside the rectangle, on the half of its controller, at the local coordinates of R75. -/
structure SubRect.Lies (c : Cfg) (clip : Clip) (sub : SubRect) : Prop where
  wide : 0 < sub.w
  high : 0 < sub.h
  columns : clip.rect.x ≤ sub.left clip ∧ sub.left clip + sub.w ≤ clip.rect.x + clip.rect.w
  rows : clip.rect.y ≤ sub.top clip ∧ sub.top clip + sub.h ≤ clip.rect.y + clip.rect.h
  side : match sub.target with
    | .slave => sub.scan = .xIncYInc ∧ sub.lx = sub.left clip ∧ sub.ly = sub.top clip ∧
        sub.left clip + sub.w ≤ panelWidth c / 2
    | .master => sub.scan = .xDecYDec ∧ sub.lx = panelWidth c - (sub.left clip + sub.w) ∧
        sub.ly = panelHeight c - (sub.top clip + sub.h) ∧ panelWidth c / 2 ≤ sub.left clip

/-- Every sub-rectangle of a partition lies so (R74 to R77). -/
theorem partition_lies {c : Cfg} {clip : Clip} {sub : SubRect} (h : sub ∈ partition c clip) : sub.Lies c clip := by
  obtain ⟨q, hq⟩ := mem_partition.1 h
  obtain ⟨hx, hy, rfl⟩ := subRectOf_eq_some.1 hq
  constructor
  case side => cases q <;> simp [Quadrant.target, Quadrant.scan, Quadrant.xRange, localOrigin, SubRect.left, SubRect.top]
  all_goals simp only [SubRect.left, SubRect.top]; omega

/-- The edges of a quadrant are byte-aligned, so those of a sub-rectangle of an aligned rectangle are (R78). -/
theorem partition_aligned {c : Cfg} {clip : Clip} {sub : SubRect} (hc : c.geometryOk = true)
    (ha : clippedAligned c clip.rect) (h : sub ∈ partition c clip) : sub.left clip % 8 = 0 ∧ sub.w % 8 = 0 := by
  have hpanel := panel_bounds hc
  obtain ⟨-, -, -, -, -, -, hx8, hw8⟩ := ha
  obtain ⟨q, hq⟩ := mem_partition.1 h
  obtain ⟨-, -, rfl⟩ := subRectOf_eq_some.1 hq
  have hq8 : (q.xRange c).1 % 8 = 0 ∧ (q.xRange c).2 % 8 = 0 := by
    unfold Quadrant.xRange
    cases q.target <;> simp only <;> omega
  simp only [SubRect.left]
  omega

/-- A window in the RAM of its controller: byte-aligned, not empty, inside (R78). -/
structure SubRect.InRam (c : Cfg) (sub : SubRect) : Prop where
  lx : 0 ≤ sub.lx ∧ sub.lx % 8 = 0
  w : 0 < sub.w ∧ sub.w % 8 = 0
  right : sub.lx + sub.w ≤ controllerWidth c
  ly : 0 ≤ sub.ly
  h : 0 < sub.h
  bottom : sub.ly + sub.h ≤ controllerHeight c

/-- Every sub-rectangle of a partition is such a window (R78). -/
theorem partition_inRam {c : Cfg} {clip : Clip} {sub : SubRect} (hc : c.geometryOk = true)
    (ha : clippedAligned c clip.rect) (h : sub ∈ partition c clip) : sub.InRam c := by
  have hpanel := panel_bounds hc
  obtain ⟨hleft8, hw8⟩ := partition_aligned hc ha h
  obtain ⟨hw, hh, hcols, hrows, hside⟩ := partition_lies h
  obtain ⟨hx, hxw, hy, hyh, -⟩ := ha
  have hlocal : 0 ≤ sub.lx ∧ sub.lx % 8 = 0 ∧ sub.lx + sub.w ≤ panelWidth c / 2 ∧
      0 ≤ sub.ly ∧ sub.ly + sub.h ≤ panelHeight c := by
    cases ht : sub.target <;> simp only [ht] at hside <;> omega
  obtain ⟨h1, h2, h3, h4, h5⟩ := hlocal
  exact ⟨⟨h1, h2⟩, ⟨hw, hw8⟩, h3, h4, hh, h5⟩

/-- The clipped rectangle of an aligned write is one that Partition takes (R70, R71). -/
theorem clipToPanel_clippedAligned {c : Cfg} {r : Rect} {clip : Clip} (hc : c.geometryOk = true)
    (h : clipToPanel c (alignWrite r) = some clip) : clippedAligned c clip.rect := by
  have hpanel := panel_bounds hc
  obtain ⟨hw, hh, rfl⟩ := clipToPanel_eq_some.1 h
  simp only [clippedAligned, alignWrite, floor8, ceil8] at *
  omega

/-- So is the whole panel (44_write_ops.md R132). -/
theorem wholePanel_clippedAligned {c : Cfg} (hc : c.geometryOk = true) : clippedAligned c (wholePanel c).rect := by
  have hpanel := panel_bounds hc
  simp only [clippedAligned, wholePanel]
  omega

end Sys2Proof.Machine
end

section
/-! The discipline of the event list (70_reset_and_hazards.md R175, R176): control events and whole blocks keep it, so every
procedure that emits nothing else does. -/

namespace Sys2Proof.Safety

open Sys2Proof.Machine

namespace Disciplined

variable {c : Cfg} {es es' : List Event}

/-- One disciplined list after another. -/
theorem append (h : Disciplined c es) (h' : Disciplined c es') : Disciplined c (es ++ es') := by
  induction h with
  | nil => exact h'
  | control e rest he _ ih => exact .control e _ he ih
  | block t m plane lx ly w h bytes rest hlx hlx8 hw hw8 hright hly hh hbottom hbytes _ ih =>
    rw [List.append_assoc]
    exact .block t m plane lx ly w h bytes _ hlx hlx8 hw hw8 hright hly hh hbottom hbytes ih

/-- Control events alone. -/
theorem of_control (h : ∀ e ∈ es, controlEvent e = true) : Disciplined c es := by
  induction es with
  | nil => exact .nil
  | cons e rest ih => exact .control e rest (h e (by simp)) (ih fun e' he' => h e' (by simp [he']))

/-- A command and its parameters. -/
theorem command (code : Byte) (parameters : List Byte) : Disciplined c (commandEvents code parameters) :=
  of_control (by simp [commandEvents, controlEvent])

/-- A CFG sequence (30_encoding.md R61). -/
theorem seq (c' : Cfg) (items : List SeqItem) : Disciplined c (seqEvents c' items) := by
  induction items with
  | nil => exact .nil
  | cons item rest ih =>
    refine append ?_ ih
    cases item with
    | command code parameters => exact command code parameters
    | lut code => exact command code c'.lut4G
    | busyWait ms => exact .control _ _ rfl .nil
    | pause ms => exact .control _ _ rfl .nil

theorem flatMap {α : Type} {f : α → List Event} {l : List α} (h : ∀ a ∈ l, Disciplined c (f a)) :
    Disciplined c (l.flatMap f) := by
  induction l with
  | nil => exact .nil
  | cons a rest ih => exact (h a (by simp)).append (ih fun a' ha' => h a' (by simp [ha']))

/-- A plane block of a window in RAM, filled exactly. -/
theorem planeBlock {plane : Plane} {sub : SubRect} {bytes : List Byte} (hsub : sub.InRam c)
    (hbytes : (bytes.length : Int) = sub.w / 8 * sub.h) : Disciplined c (planeBlock c plane sub bytes) := by
  obtain ⟨⟨hlx, hlx8⟩, ⟨hw, hw8⟩, hright, hly, hh, hbottom⟩ := hsub
  have hblock := Disciplined.block sub.target sub.scan plane _ _ _ _ bytes [] hlx hlx8 hw hw8 hright hly hh hbottom
    hbytes .nil
  rwa [List.append_nil] at hblock

/-- The loop of R131 and R132 over a rectangle that Partition takes. -/
theorem planes {planes : List Plane} {clip : Clip} {bytes : Plane → SubRect → List Byte} (hc : c.geometryOk = true)
    (hclip : clippedAligned c clip.rect)
    (hbytes : ∀ plane sub, sub.InRam c → ((bytes plane sub).length : Int) = sub.w / 8 * sub.h) :
    Disciplined c (planes.flatMap fun plane =>
      (partition c clip).flatMap fun sub => Machine.planeBlock c plane sub (bytes plane sub)) := by
  refine flatMap fun plane _ => flatMap fun sub hsub => ?_
  have hram := partition_inRam hc hclip hsub
  exact planeBlock hram (hbytes plane sub hram)

end Disciplined

end Sys2Proof.Safety

namespace Sys2Proof.Machine

open Sys2Proof.Safety

/-- A sub-rectangle of positive extent has `w / 8 * h` bytes (41_ram_window.md R92). -/
theorem subBytes_length_eq {sub : SubRect} (hw : 0 < sub.w) (hh : 0 < sub.h) (byte : Nat → Nat → Byte) :
    ((subBytes sub byte).length : Int) = sub.w / 8 * sub.h := by
  rw [subBytes_length, Nat.cast_mul, Int.toNat_of_nonneg hh.le, Int.toNat_of_nonneg (by omega), mul_comm]

/-- Either stream of a source view has exactly the window's bytes (42_pixel_packer.md R98, R104). -/
theorem planeBytes_length {c : Cfg} {sub : SubRect} (hsub : sub.InRam c) (s : State) (format : Option GreyFormat)
    (src : SourceView) (plane : Plane) : ((s.planeBytes format src plane sub).length : Int) = sub.w / 8 * sub.h := by
  obtain ⟨hw, -⟩ := hsub.w
  cases format with
  | none => exact subBytes_length_eq hw hsub.h _
  | some f => exact subBytes_length_eq hw hsub.h _

/-- So has the stream of a fill (R99). -/
theorem fillBytes_length {c : Cfg} {sub : SubRect} (hsub : sub.InRam c) (value : Byte) :
    ((fillBytes sub value).length : Int) = sub.w / 8 * sub.h := by
  obtain ⟨hw, -⟩ := hsub.w
  have hsize : 0 ≤ sub.w / 8 * sub.h := Int.mul_nonneg (by omega) hsub.h.le
  rw [fillBytes, List.length_replicate, Int.toNat_of_nonneg hsize]

/-- A plan that is not refused clips to a rectangle that Partition takes. -/
def PlanClipped (c : Cfg) : Except StatusCode WritePlan → Prop
  | .error _ => True
  | .ok p => clippedAligned c p.clip.rect

/-- The geometry of a whole-bitmap operation is such a plan (44_write_ops.md R137, R141). -/
theorem planImage_clipped {c : Cfg} (hc : c.geometryOk = true) (bpp : Int) (b : BitmapArgs) (r : RectArgs) :
    PlanClipped c (planImage c bpp b r) := by
  cases h : planImage c bpp b r with
  | error code => trivial
  | ok p =>
    obtain ⟨-, -, clip, hclip, rfl⟩ := planImage_eq_ok.1 h
    exact clipToPanel_clippedAligned hc hclip

/-- So is that of a part operation (R139, R142). -/
theorem planPart_clipped {c : Cfg} (hc : c.geometryOk = true) (bpp align : Int) (b : BitmapArgs) (p : PartArgs)
    (r : RectArgs) : PlanClipped c (planPart c bpp align b p r) := by
  cases h : planPart c bpp align b p r with
  | error code => trivial
  | ok plan =>
    obtain ⟨-, -, -, -, -, -, -, -, clip, hclip, rfl⟩ := planPart_eq_ok.1 h
    exact clipToPanel_clippedAligned hc hclip

end Sys2Proof.Machine

namespace Sys2Proof.Safety

open Sys2Proof.Machine

/-- A state of an operation under the admissible CFG `c` whose events so far keep the discipline. -/
structure Orderly (c : Cfg) (s : State) : Prop where
  ok : c.ok = true
  cfg : s.cfg = c
  events : Disciplined c s.events

namespace Orderly

variable {c : Cfg} {s t : State}

theorem geometry (h : Orderly c s) : c.geometryOk = true := by
  have hok := h.ok
  simp only [Cfg.ok, Bool.and_eq_true] at hok
  obtain ⟨⟨⟨⟨⟨hgeometry, -⟩, -⟩, -⟩, -⟩, -⟩ := hok
  exact hgeometry

/-! ### The primitives of a body -/

theorem emit {es : List Event} (h : Orderly c s) (hes : Disciplined c es) : Orderly c (s.emit es) :=
  ⟨h.ok, h.cfg, h.events.append hes⟩

/-- A body in closed form. -/
theorem run {st : DcpState} {es : List Event} (h : Orderly c s) (hr : Runs s t st es) (hes : Disciplined c es) :
    Orderly c t :=
  ⟨h.ok, hr.hcfg.trans h.cfg, by rw [hr.hevents]; exact h.events.append hes⟩

theorem ite {p : Prop} [Decidable p] (hs : Orderly c s) (ht : Orderly c t) : Orderly c (if p then s else t) := by
  split
  · exact hs
  · exact ht

theorem withSt (h : Orderly c s) (st : DcpState) : Orderly c (s.withSt st) := ⟨h.ok, h.cfg, h.events⟩

theorem waitBusy (h : Orderly c s) (ms : Nat) : Orderly c (s.waitBusy ms) :=
  h.run (waitBusy_runs s ms) (.control _ _ rfl .nil)

theorem emitSeq (h : Orderly c s) (items : List SeqItem) : Orderly c (s.emitSeq items) :=
  h.run (emitSeq_runs s items) (.seq s.cfg items)

/-! ### The refresh machine (43_refresh_fsm.md) -/

theorem wake (h : Orderly c s) : Orderly c s.wake :=
  ((h.emit (.of_control (by simp [controlEvent]))).ite h).withSt _

theorem initPlain (h : Orderly c s) : Orderly c s.initPlain := (h.wake.emitSeq _).withSt _

theorem initGrey (h : Orderly c s) : Orderly c s.initGrey := (h.wake.emitSeq _).withSt _

theorem ensureInitPlain (h : Orderly c s) : Orderly c s.ensureInitPlain := h.ite h.initPlain

theorem ensureInitGrey (h : Orderly c s) : Orderly c s.ensureInitGrey := h.ite h.initGrey

theorem ensureInitAny (h : Orderly c s) : Orderly c s.ensureInitAny := h.initPlain.ite h

theorem powerOn (h : Orderly c s) : Orderly c s.powerOn := (h.ite ((h.emitSeq _).waitBusy _)).withSt _

theorem powerOff (h : Orderly c s) : Orderly c s.powerOff := (((h.emitSeq _).waitBusy _).ite h).withSt _

theorem updateFull (h : Orderly c s) : Orderly c s.updateFull := ((h.powerOn.emitSeq _).waitBusy _).withSt _

theorem updateGrey (h : Orderly c s) : Orderly c s.updateGrey := ((h.powerOn.emitSeq _).waitBusy _).withSt _

theorem updatePart (h : Orderly c s) : Orderly c s.updatePart :=
  ((h.emit ((((Disciplined.command _ _).append (.command _ _)).append (.command _ _)).append (.command _ _))).waitBusy
    _).withSt _

theorem reinitialize (h : Orderly c s) : Orderly c s.reinitialize := h.initPlain.ite h

theorem updateByMode (h : Orderly c s) : Orderly c s.updateByMode := h.updateGrey.ite h.updateFull

theorem fullRefresh (h : Orderly c s) : Orderly c s.fullRefresh := h.ensureInitAny.reinitialize.updateByMode.withSt _

theorem partialRefresh (h : Orderly c s) : Orderly c s.partialRefresh :=
  (h.ensureInitAny.initPlain.ite h.ensureInitAny).updatePart

theorem regionRefresh (h : Orderly c s) (r : Rect) : Orderly c (s.regionRefresh r).1 := by
  unfold State.regionRefresh
  split
  · exact h.fullRefresh
  · split
    · exact h
    · exact h.partialRefresh

theorem refreshBody (h : Orderly c s) (onlyPart : Bool) : Orderly c (s.refreshBody onlyPart).1 := by
  cases onlyPart with
  | false => exact h.fullRefresh
  | true => exact h.regionRefresh (panelRect s.cfg)

theorem setMode (h : Orderly c s) (mode : RefreshMode) : Orderly c (s.setMode mode).1 := by
  cases mode with
  | forcedFullRefresh | fastRefresh => exact h.withSt _
  | fullRefresh | greyRefresh => exact h

theorem hibernateBody (h : Orderly c s) : Orderly c s.hibernateBody.1 := by
  unfold State.hibernateBody
  dsimp only
  split
  · exact (h.powerOff.emit (.command _ _)).withSt _
  · exact h.powerOff

/-! ### The writes (44_write_ops.md) -/

theorem fillPlanes (h : Orderly c s) (planes : List Plane) (value : Byte) : Orderly c (s.fillPlanes planes value) := by
  obtain rfl := h.cfg
  exact h.emit (.planes h.geometry (wholePanel_clippedAligned h.geometry) fun _ _ hsub => fillBytes_length hsub value)

theorem writePlanes (h : Orderly c s) {clip : Clip} (hclip : clippedAligned c clip.rect) (planes : List Plane)
    (format : Option GreyFormat) (src : SourceView) : Orderly c (s.writePlanes planes format clip src) := by
  obtain rfl := h.cfg
  exact h.emit (.planes h.geometry hclip fun plane _ hsub => planeBytes_length hsub s format src plane)

theorem clearScreen (h : Orderly c s) (value : Byte) : Orderly c (s.clearScreen value) :=
  (h.ensureInitPlain.fillPlanes _ value).fullRefresh.withSt _

theorem redirect (h : Orderly c s) (value : Byte) : Orderly c (s.redirect value) := (h.clearScreen value).ite h

theorem fillBody (h : Orderly c s) (planes : List Plane) (value : Byte) : Orderly c (s.fillBody planes value) :=
  (h.redirect value).ensureInitPlain.fillPlanes planes value

theorem monoBody (h : Orderly c s) (planes : List Plane) {p : WritePlan} (hp : clippedAligned c p.clip.rect) :
    Orderly c (s.monoBody planes p) := (h.redirect _).ensureInitPlain.writePlanes hp planes none p.src

theorem greyBody (h : Orderly c s) (f : GreyFormat) {p : WritePlan} (hp : clippedAligned c p.clip.rect) :
    Orderly c (s.greyBody f p) := (h.redirect _).ensureInitGrey.writePlanes hp _ (some f) p.src

variable {plan : Except StatusCode WritePlan}

theorem monoWrite (h : Orderly c s) (planes : List Plane) (hp : PlanClipped c plan) :
    Orderly c (s.monoWrite planes plan).1 := by
  cases plan with
  | error code => exact h
  | ok p => exact h.monoBody planes hp

theorem greyWrite (h : Orderly c s) (f : GreyFormat) (hp : PlanClipped c plan) : Orderly c (s.greyWrite f plan).1 := by
  cases plan with
  | error code => exact h
  | ok p => exact h.greyBody f hp

/-- Write, region refresh, `Again` write (R143). -/
theorem monoDraw (h : Orderly c s) (hp : PlanClipped c plan) : Orderly c (s.monoDraw plan).1 := by
  cases plan with
  | error code => exact h
  | ok p => exact ((h.monoBody _ hp).regionRefresh p.region).monoBody _ hp

/-- Write, region refresh (R145). -/
theorem greyDraw (h : Orderly c s) (f : GreyFormat) (hp : PlanClipped c plan) : Orderly c (s.greyDraw f plan).1 := by
  cases plan with
  | error code => exact h
  | ok p => exact (h.greyBody f hp).regionRefresh p.region

theorem withGreyFormat (h : Orderly c s) (bpp : Byte) {body : GreyFormat → State × StatusCode}
    (hb : ∀ f, Orderly c (body f).1) : Orderly c (s.withGreyFormat bpp body).1 := by
  unfold State.withGreyFormat
  cases greyFormat s.cfg bpp with
  | none => exact h
  | some f => exact hb f

end Orderly

/-! ### The instructions -/

/-- An operation starts with no event. -/
theorem start_orderly {s : State} (h : s.cfg.ok = true) : Orderly s.cfg s.start := ⟨h, rfl, .nil⟩

/-- Settles O39: each request is an operation whose body keeps the discipline, and a lone command is control events. -/
theorem everyTransferHasItsWindow : Obligations.EveryTransferHasItsWindow := by
  unfold Obligations.EveryTransferHasItsWindow
  intro i s t hok _ h
  have hstart := start_orderly hok
  have hc := hstart.geometry
  have hrun : ∀ {body : State → State × StatusCode}, exec i s = .next (s.operate body) →
      Orderly s.cfg (body s.start).1 → Disciplined s.cfg t.events := by
    intro body he hb
    cases h.symm.trans he
    exact hb.events
  have hcommand : isRequest i = false → Disciplined s.cfg t.events := by
    intro hi
    obtain ⟨code, parameters, he⟩ := exec_command_eq hi s
    cases h.symm.trans he
    exact .command code parameters
  cases i with
  | clearScreen value => exact hrun rfl (hstart.clearScreen value)
  | writeScreenBuffer value => exact hrun rfl (hstart.fillBody _ value)
  | writeScreenBufferAgain value => exact hrun rfl (hstart.fillBody _ value)
  | writeImage b r | writeImageAgain b r => exact hrun rfl (hstart.monoWrite _ (planImage_clipped hc 1 b r))
  | writeImagePart b p r | writeImagePartAgain b p r =>
    exact hrun rfl (hstart.monoWrite _ (planPart_clipped hc 1 8 b p r))
  | writeImage4G bpp b r =>
    exact hrun rfl (hstart.withGreyFormat bpp fun f => hstart.greyWrite f (planImage_clipped hc f.bpp b r))
  | writeImagePart4G bpp b p r =>
    exact hrun rfl (hstart.withGreyFormat bpp fun f => hstart.greyWrite f (planPart_clipped hc f.bpp f.ppb b p r))
  | drawImage b r => exact hrun rfl (hstart.monoDraw (planImage_clipped hc 1 b r))
  | drawImagePart b p r => exact hrun rfl (hstart.monoDraw (planPart_clipped hc 1 8 b p r))
  | drawImage4G bpp b r =>
    exact hrun rfl (hstart.withGreyFormat bpp fun f => hstart.greyDraw f (planImage_clipped hc f.bpp b r))
  | drawImagePart4G bpp b p r =>
    exact hrun rfl (hstart.withGreyFormat bpp fun f => hstart.greyDraw f (planPart_clipped hc f.bpp f.ppb b p r))
  | refresh onlyPart => exact hrun rfl (hstart.refreshBody onlyPart)
  | refreshRegion r => exact hrun rfl (hstart.regionRefresh (rectOf r))
  | powerOff => exact hrun rfl hstart.powerOff
  | hibernate => exact hrun rfl hstart.hibernateBody
  | setRefreshMode mode => exact hrun rfl (hstart.setMode mode)
  | reserved opcode => exact hrun rfl hstart
  | _ => exact hcommand rfl

end Sys2Proof.Safety
end

section
/-! Rows sent as two bytes (20_memory.md R35), one input of the port, and the bytes a 1bpp stream reads (R31, R32;
42_pixel_packer.md R95 to R98, R108). -/

namespace Sys2Proof.Machine

open Sys2Proof.Safety

/-! ### The two bytes of a row -/

/-- The low byte of a number is the low byte of its 16 bits. -/
theorem lo8_eq (v : Int) : lo8 v = (BitVec.ofInt 16 v).extractLsb' 0 8 := by
  apply BitVec.eq_of_toNat_eq
  simp [lo8, BitVec.extractLsb'_toNat, BitVec.toNat_ofInt]
  omega

/-- Its second byte is their high byte. -/
theorem hi8_eq (v : Int) : hi8 v = (BitVec.ofInt 16 v).extractLsb' 8 8 := by
  apply BitVec.eq_of_toNat_eq
  simp [hi8, BitVec.extractLsb'_toNat, BitVec.toNat_ofInt, Nat.shiftRight_eq_div_pow]
  omega

@[simp] theorem lo8_toNat (v : Half) : lo8 (v.toNat : Int) = v.extractLsb' 0 8 := by simp [lo8_eq]

@[simp] theorem hi8_toNat (v : Half) : hi8 (v.toNat : Int) = v.extractLsb' 8 8 := by simp [hi8_eq]

/-! ### A store of the host -/

/-- A store of the host is served to an IDLE engine (70_reset_and_hazards.md R173). -/
theorem step_store {s : State} {space : SourceSpace} {a : Word} {b : Byte} {rest : List Input}
    (hp : s.port = .store space a b :: rest) (hidle : s.engine = .idle) :
    step s = .next ((s.served rest).hostStore space a b) := by
  simp [step, fetch, hp, hidle]

/-! ### The source view of a placed operation -/

/-- What is cut off by clipping leaves the rest inside the rectangle (R71). -/
theorem clipToPanel_trim {c : Cfg} {r : Rect} {clip : Clip} (h : clipToPanel c r = some clip) :
    0 ≤ clip.dx ∧ clip.dx + clip.rect.w ≤ r.w ∧ 0 ≤ clip.dy ∧ clip.dy + clip.rect.h ≤ r.h ∧
      (r.x % 8 = 0 → clip.dx % 8 = 0) := by
  obtain ⟨-, -, rfl⟩ := clipToPanel_eq_some.1 h
  simp only
  omega

/-- A placed operation clips an aligned rectangle. -/
theorem placed_clippedAligned {c : Cfg} {bpp align : Int} {b : BitmapArgs} {p : PartArgs} {r : RectArgs} {wl hl : Int}
    {clip : Clip} {src : SourceView} (hc : c.geometryOk = true)
    (h : ImagePlaced c bpp b r clip src ∨ PartPlaced c bpp align b p r wl hl clip src) : clippedAligned c clip.rect := by
  rcases h with h | h
  · exact clipToPanel_clippedAligned hc h.clipped
  · exact clipToPanel_clippedAligned hc h.clipped

/-- The rows of a placed operation are rows of its bitmap (42_pixel_packer.md R96). -/
theorem placed_rows {c : Cfg} {bpp align : Int} {b : BitmapArgs} {p : PartArgs} {r : RectArgs} {wl hl : Int}
    {clip : Clip} {src : SourceView} (h : ImagePlaced c bpp b r clip src ∨ PartPlaced c bpp align b p r wl hl clip src) :
    0 ≤ src.yoff + clip.dy ∧ src.yoff + clip.dy + clip.rect.h ≤ src.hsrc := by
  rcases h with h | h
  · obtain ⟨-, -, hdy, hrows, -⟩ := clipToPanel_trim h.clipped
    have hh := h.hsrc
    have hy := h.yoff
    simp only [alignWrite] at hrows
    omega
  · obtain ⟨-, -, hdy, hrows, -⟩ := clipToPanel_trim h.clipped
    obtain ⟨hp, -⟩ := h.row
    have hl := h.limitedHeight
    have hh := h.hsrc
    have hy := h.yoff
    simp only [alignWrite] at hrows
    omega

/-- The byte columns of a placed 1bpp operation are columns of its bitmap (42_pixel_packer.md R108). -/
theorem placed_columns {c : Cfg} {b : BitmapArgs} {p : PartArgs} {r : RectArgs} {wl hl : Int} {clip : Clip}
    {src : SourceView} (h : ImagePlaced c 1 b r clip src ∨ PartPlaced c 1 8 b p r wl hl clip src) :
    0 ≤ src.xoff + clip.dx ∧ (src.xoff + clip.dx) % 8 = 0 ∧ src.xoff + clip.dx + clip.rect.w ≤ 8 * src.stride := by
  rcases h with h | h
  · obtain ⟨hdx, hcols, -, -, hdx8⟩ := clipToPanel_trim h.clipped
    have hs := h.stride
    have hx := h.xoff
    simp only [alignWrite, floor8, ceil8] at hcols hdx8
    omega
  · obtain ⟨hdx, hcols, -, -, hdx8⟩ := clipToPanel_trim h.clipped
    obtain ⟨hp, -⟩ := h.column
    have hl := h.limitedWidth
    have hs := h.stride
    have hx := h.xoff
    simp only [alignWrite, floor8, ceil8] at hcols hdx8
    omega

/-- A row inside the bitmap stays inside when it is mirrored (R96). -/
theorem sourceRow_bounds {src : SourceView} {sub : SubRect} {i : Nat} (h : 0 ≤ src.yoff + sub.sdy + i)
    (h' : src.yoff + sub.sdy + i < src.hsrc) : 0 ≤ sourceRow src sub i ∧ sourceRow src sub i < src.hsrc := by
  unfold sourceRow
  dsimp only
  split <;> omega

/-- A byte whose row and column are inside the bitmap is inside its extent (20_memory.md R32). -/
theorem index_in_extent {stride hsrc row col : Int} (hrow : 0 ≤ row) (hrow' : row < hsrc) (hcol : 0 ≤ col)
    (hcol' : col < stride) : 0 ≤ row * stride + col ∧ row * stride + col < stride * hsrc := by
  have hstart : 0 ≤ row * stride := Int.mul_nonneg hrow (by omega)
  have hend : (row + 1) * stride ≤ hsrc * stride := Int.mul_le_mul_of_nonneg_right hrow' (by omega)
  constructor <;> linarith

end Sys2Proof.Machine
end

section
/-! The statements of the memory family: stores, commands, sequences, alignment and the 1bpp reads. -/

namespace Sys2Proof.Safety

open Sys2Proof.Machine

/-- Settles O8: the store is served, and the byte it writes is the only one that changes. -/
theorem hostStoreWritesOneByte : Obligations.HostStoreWritesOneByte := by
  unfold Obligations.HostStoreWritesOneByte
  intro s space a b rest hp hidle
  refine ⟨_, step_store hp hidle, hostStore_read _ space a b, fun space' a' h => ?_, ?_⟩
  · exact hostStore_read_other (s.served rest) a b h
  · cases space <;> exact ⟨rfl, rfl, rfl, rfl, rfl, rfl, rfl, rfl⟩

/-- Settles O27: EmitSeq in closed form. -/
theorem emitSeqEmitsItsItems : Obligations.EmitSeqEmitsItsItems := by
  unfold Obligations.EmitSeqEmitsItsItems
  intro s items
  have h := emitSeq_runs s items
  exact ⟨h.hevents, h.hst, h.hcfg⟩

/-- Settles O41: each command drives its own bytes, and a row is sent as its two halves. -/
theorem targetedCommandsSendTheirBytes : Obligations.TargetedCommandsSendTheirBytes := by
  unfold Obligations.TargetedCommandsSendTheirBytes
  intro s first last row row' m tb htb
  have hbit : tb.2 = tb.1.bit := by
    simp only [List.mem_cons, List.not_mem_nil, or_false] at htb
    rcases htb with rfl | rfl <;> rfl
  rw [hbit]
  refine ⟨rfl, rfl, rfl, ?_, rfl, ?_, ?_⟩
  · rw [← lo8_toNat, ← hi8_toNat, ← lo8_toNat, ← hi8_toNat]
    rfl
  · rw [← lo8_toNat, ← hi8_toNat]
    rfl
  · cases m <;> rfl

/-- Settles O42: the rounding of floor8 and of ceil8. -/
theorem alignWriteRounds : Obligations.AlignWriteRounds := by
  unfold Obligations.AlignWriteRounds
  intro r
  simp only [alignWrite, floor8, ceil8, and_true]
  omega

/-- Settles O51: the columns and the rows of a sub-rectangle are among those of the placed operation. -/
theorem monoReadsStayInBitmap : Obligations.MonoReadsStayInBitmap := by
  unfold Obligations.MonoReadsStayInBitmap
  intro c b p r wl hl clip src sub i j hc hplaced hsub hi hj
  have ha := placed_clippedAligned hc hplaced
  have hrows := placed_rows hplaced
  have hcols := placed_columns hplaced
  have hlies := partition_lies hsub
  have haligned := partition_aligned hc ha hsub
  obtain ⟨-, -, -, -, -, -, hx8, -⟩ := ha
  have hleft := hlies.columns
  have htop := hlies.rows
  simp only [SubRect.left, SubRect.top] at hleft htop haligned
  have hcol : 0 ≤ (src.xoff + sub.sdx) / 8 + j ∧ (src.xoff + sub.sdx) / 8 + j < src.stride := by omega
  obtain ⟨hrow0, hrow1⟩ := sourceRow_bounds (src := src) (sub := sub) (i := i) (by omega) (by omega)
  have hidx := index_in_extent hrow0 hrow1 hcol.1 hcol.2
  rw [← Int.add_assoc] at hidx
  exact ⟨hcol.1, hcol.2, hidx.1, hidx.2⟩

/-- Settles O52: the stream is a list of rows, and a provided byte inside the extent is read as it is. -/
theorem monoStreamSendsSourceBytes : Obligations.MonoStreamSendsSourceBytes := by
  unfold Obligations.MonoStreamSendsSourceBytes
  intro s src sub hw hw8 hh
  refine ⟨subBytes_length_eq hw hh _, fun i j hi hj => ⟨?_, fun byte hidx hb => sourceByte_provided hidx hb⟩⟩
  exact subBytes_getElem? sub _ i j (by omega) (by omega)

end Sys2Proof.Safety
end

section
/-! The bits of a packed grayscale byte (42_pixel_packer.md R100 to R105), and which quadrant shows a pixel of a rectangle
(40_partitioner.md R73 to R79). -/

namespace Sys2Proof.Machine

open Sys2Proof.Safety

/-! ### Packing -/

/-- The plane bit of pixel `k` of a source byte, the leftmost pixel in the most significant bits (20_memory.md R36). -/
def pixelBit (t : GrayPlaneTable) (f : GreyFormat) (plane : Plane) (b : Byte) (k : Nat) : Bool :=
  planeBit t plane (classify f ((b <<< (k * f.bpp)) &&& f.mask))

/-- Packing `n` pixels moves the byte up by `n` bits, and the last pixel comes to bit 0 (R103). -/
theorem packPixels_getLsbD (t : GrayPlaneTable) (f : GreyFormat) (plane : Plane) (n : Nat) (b out : Byte) {i : Nat}
    (hi : i < 8) : (packPixels t f plane n b out).getLsbD i
      = if i < n then pixelBit t f plane b (n - 1 - i) else out.getLsbD (i - n) := by
  induction n generalizing b out with
  | zero => simp [packPixels]
  | succ n ih =>
    rw [packPixels, ih]
    rcases lt_trichotomy i n with h | rfl | h
    · have hshift : (n - 1 - i) * f.bpp + f.bpp = (n + 1 - 1 - i) * f.bpp := by
        rw [← Nat.succ_mul]
        congr 1
        omega
      rw [if_pos h, if_pos (by omega), pixelBit, pixelBit, ← BitVec.shiftLeft_add, Nat.add_comm f.bpp, hshift]
    · simp [pixelBit]
    · rw [if_neg (by omega), if_neg (by omega)]
      have hpos : i - n ≠ 0 := by omega
      simp [hpos, show i - n - 1 = i - (n + 1) by omega, show i - n < 8 by omega,
        BitVec.getLsbD_eq_getElem (show i - (n + 1) < 8 by omega)]

/-- Pixel `p` of the source bytes of an output byte comes to the bit as far from its left end (R103). -/
theorem packBytes_getLsbD (t : GrayPlaneTable) (f : GreyFormat) (plane : Plane) (byte : Nat → Byte) {n p : Nat}
    (hn : n * f.ppb ≤ 8) (hp : p < n * f.ppb) :
    (packBytes t f plane ((List.range n).map byte)).getLsbD (n * f.ppb - 1 - p)
      = pixelBit t f plane (byte (p / f.ppb)) (p % f.ppb) := by
  induction n with
  | zero => omega
  | succ n ih =>
    rw [Nat.succ_mul] at hn hp ⊢
    rw [packBytes, List.range_succ, List.map_append, List.foldl_append]
    simp only [List.map_cons, List.map_nil, List.foldl_cons, List.foldl_nil]
    rw [packPixels_getLsbD _ _ _ _ _ _ (by omega)]
    rcases Nat.lt_or_ge p (n * f.ppb) with h | h
    · rw [if_neg (by omega), show n * f.ppb + f.ppb - 1 - p - f.ppb = n * f.ppb - 1 - p by omega]
      exact ih (by omega) h
    · obtain ⟨k, rfl⟩ := Nat.exists_eq_add_of_le h
      have hk : k < f.ppb := by omega
      rw [if_pos (by omega), Nat.mul_comm n, Nat.mul_add_div (by omega), Nat.mul_add_mod, Nat.div_eq_of_lt hk,
        Nat.mod_eq_of_lt hk]
      congr 1
      omega

/-- The source bytes of an output byte have 8 pixels (R100). -/
theorem greyFormat_pixels {c : Cfg} {bpp : Byte} {f : GreyFormat} (h : greyFormat c bpp = some f) :
    f.bpp * f.ppb = 8 := by
  unfold greyFormat at h
  split at h <;> cases h <;> rfl

/-! ### Quadrants -/

/-- Does a global pixel lie in a quadrant (R73)? -/
def Quadrant.holds (c : Cfg) (gx gy : Int) (q : Quadrant) : Bool :=
  decide ((q.xRange c).1 ≤ gx ∧ gx < (q.xRange c).2 ∧ (q.yRange c).1 ≤ gy ∧ gy < (q.yRange c).2)

theorem Quadrant.holds_iff {c : Cfg} {gx gy : Int} {q : Quadrant} : q.holds c gx gy = true ↔
    (q.xRange c).1 ≤ gx ∧ gx < (q.xRange c).2 ∧ (q.yRange c).1 ≤ gy ∧ gy < (q.yRange c).2 := decide_eq_true_iff

/-- A pixel of a rectangle inside the panel lies in exactly one quadrant. -/
theorem countP_holds {c : Cfg} {r : Rect} {gx gy : Int} (hr : clippedAligned c r) (h : inRect r gx gy) :
    Quadrant.all.countP (Quadrant.holds c gx gy) = 1 := by
  obtain ⟨hx, hxw, hy, hyh, -⟩ := hr
  obtain ⟨hgx, hgxw, hgy, hgyh⟩ := h
  simp only [Quadrant.all, List.countP_cons, List.countP_nil, Quadrant.holds_iff, Quadrant.xRange, Quadrant.yRange,
    Quadrant.target]
  rcases lt_or_ge gx (panelWidth c / 2) with hleft | hright <;> rcases lt_or_ge gy (panelHeight c / 2) with hup | hlow
  · rw [if_neg (by omega), if_neg (by omega), if_neg (by omega), if_pos (by omega)]
  · rw [if_neg (by omega), if_neg (by omega), if_pos (by omega), if_neg (by omega)]
  · rw [if_neg (by omega), if_pos (by omega), if_neg (by omega), if_neg (by omega)]
  · rw [if_pos (by omega), if_neg (by omega), if_neg (by omega), if_neg (by omega)]

/-- A sub-rectangle of a partition covers the global pixels between its edges (R75). -/
theorem SubRect.Lies.covers_iff {c : Cfg} {clip : Clip} {sub : SubRect} (h : sub.Lies c clip) (gx gy : Int) :
    covers c gx gy sub = true ↔ inRect ⟨sub.left clip, sub.top clip, sub.w, sub.h⟩ gx gy := by
  have hside := h.side
  simp only [covers, pixelLocal, pixelTarget, Bool.and_eq_true, beq_iff_eq, inRect]
  cases ht : sub.target <;> rw [ht] at hside <;> split <;> simp <;> omega

/-- A quadrant's sub-rectangle covers the pixels of the rectangle that lie in the quadrant, and without one there is none
(R75, R77). -/
theorem subRectOf_covers (c : Cfg) (clip : Clip) (q : Quadrant) (gx gy : Int) :
    ((subRectOf c clip q).map (covers c gx gy)).getD false = true ↔
      inRect clip.rect gx gy ∧ q.holds c gx gy = true := by
  simp only [inRect, Quadrant.holds_iff]
  cases h : subRectOf c clip q with
  | none =>
    simp only [subRectOf] at h
    split at h
    · simp
      omega
    · cases h
  | some sub =>
    rw [Option.map_some, Option.getD_some, (partition_lies (mem_partition.2 ⟨q, h⟩)).covers_iff]
    obtain ⟨-, -, rfl⟩ := subRectOf_eq_some.1 h
    simp only [inRect, SubRect.left, SubRect.top]
    omega

/-- How many pixels the ranges `[lo, hi)` and `[lo', hi')` share. -/
def overlap (lo hi lo' hi' : Int) : Int := max 0 (min hi hi' - max lo lo')

theorem overlap_eq {lo hi lo' hi' : Int} (h : max lo lo' < min hi hi') :
    overlap lo hi lo' hi' = min hi hi' - max lo lo' := max_eq_right (by omega)

theorem overlap_eq_zero {lo hi lo' hi' : Int} (h : min hi hi' - max lo lo' ≤ 0) : overlap lo hi lo' hi' = 0 :=
  max_eq_left h

/-- The area of a quadrant's sub-rectangle, 0 where there is none. -/
theorem subRectOf_area (c : Cfg) (clip : Clip) (q : Quadrant) :
    ((subRectOf c clip q).map fun sub => sub.w * sub.h).getD 0
      = overlap clip.rect.x (clip.rect.x + clip.rect.w) (q.xRange c).1 (q.xRange c).2
        * overlap clip.rect.y (clip.rect.y + clip.rect.h) (q.yRange c).1 (q.yRange c).2 := by
  cases h : subRectOf c clip q with
  | none =>
    simp only [subRectOf] at h
    split at h
    · next hempty =>
      rcases hempty with hx | hy
      · rw [overlap_eq_zero hx, zero_mul]
        rfl
      · rw [overlap_eq_zero hy, mul_zero]
        rfl
    · cases h
  | some sub =>
    obtain ⟨hx, hy, rfl⟩ := subRectOf_eq_some.1 h
    rw [overlap_eq hx, overlap_eq hy]
    rfl

/-- The sum over the sub-rectangles of a partition, quadrant by quadrant. -/
theorem partition_sum (c : Cfg) (clip : Clip) (g : SubRect → Int) :
    ((partition c clip).map g).sum = (Quadrant.all.map fun q => ((subRectOf c clip q).map g).getD 0).sum := by
  unfold partition
  induction Quadrant.all with
  | nil => rfl
  | cons q rest ih => cases h : subRectOf c clip q <;> simp [h, ih]

end Sys2Proof.Machine
end

section
/-! The statements of the memory family: the partition and the grayscale bits. -/

namespace Sys2Proof.Safety

open Sys2Proof.Machine

/-- Settles O46: a pixel is covered by the sub-rectangle of the one quadrant that it lies in, and the areas are products of
the overlaps with the two halves of each axis. -/
theorem partitionNoGapsNoOverlaps : Obligations.PartitionNoGapsNoOverlaps := by
  unfold Obligations.PartitionNoGapsNoOverlaps
  intro c clip gx gy hc ha
  have hcount : (partition c clip).countP (covers c gx gy)
      = Quadrant.all.countP fun q => ((subRectOf c clip q).map (covers c gx gy)).getD false := List.countP_filterMap
  refine ⟨fun hin => ?_, fun hout => ?_, ?_⟩
  · rw [hcount, ← countP_holds ha hin]
    exact List.countP_congr fun q _ => by simp [subRectOf_covers, hin]
  · rw [hcount, List.countP_eq_zero]
    exact fun q _ hq => hout ((subRectOf_covers c clip q gx gy).1 hq).1
  · have hpanel := panel_bounds hc
    obtain ⟨hx, hxw, hy, hyh, hw, hh, -⟩ := ha
    have hcols : overlap clip.rect.x (clip.rect.x + clip.rect.w) 0 (panelWidth c / 2)
        + overlap clip.rect.x (clip.rect.x + clip.rect.w) (panelWidth c / 2) (panelWidth c) = clip.rect.w := by
      simp only [overlap]
      omega
    have hrows : overlap clip.rect.y (clip.rect.y + clip.rect.h) 0 (panelHeight c / 2)
        + overlap clip.rect.y (clip.rect.y + clip.rect.h) (panelHeight c / 2) (panelHeight c) = clip.rect.h := by
      simp only [overlap]
      omega
    rw [partition_sum, ← hcols, ← hrows]
    simp only [subRectOf_area, Quadrant.all, List.map_cons, List.map_nil, List.sum_cons, List.sum_nil, Quadrant.xRange,
      Quadrant.yRange, Quadrant.target]
    ring

/-- Settles O54: the byte sent is the complement of the packed byte, whose 8 pixels come from `bpp` source bytes. -/
theorem greyPixelBitsSent : Obligations.GreyPixelBitsSent := by
  unfold Obligations.GreyPixelBitsSent
  intro s bpp f plane sub src i j p hf hp
  have hpixels := greyFormat_pixels hf
  have hpacked := packBytes_getLsbD s.cfg.grayPlaneTable f plane (fun k => s.workingByte src (greyIndex src f sub i j k))
    hpixels.le (hpixels.symm ▸ hp)
  rw [hpixels] at hpacked
  rw [State.packGrey, BitVec.getLsbD_not, show 7 - p = 8 - 1 - p by omega, hpacked]
  simp [pixelBit, State.workingByte, greyIndex, show 8 - 1 - p < 8 by omega]

end Sys2Proof.Safety
end

section
/-! The optional sink (93_implementation_defined.md G7): what the events that address one controller do to that controller,
and that they leave the other alone (30_encoding.md R58). -/

namespace Sys2Proof.Machine

/-! ### Panels and controllers -/

@[simp] theorem Panel.controller_modify_same (p : Panel) (t : Target) (f : Controller → Controller) :
    (p.modify t f).controller t = f (p.controller t) := by cases t <;> rfl

theorem Panel.controller_modify_other (p : Panel) {t t' : Target} (h : t' ≠ t) (f : Controller → Controller) :
    (p.modify t f).controller t' = p.controller t' := by
  cases t <;> cases t'
  · exact absurd rfl h
  · rfl
  · rfl
  · exact absurd rfl h

@[simp] theorem Panel.modify_last (p : Panel) (t : Target) (f : Controller → Controller) :
    (p.modify t f).last = p.last := by cases t <;> rfl

@[simp] theorem Panel.modify_count (p : Panel) (t : Target) (f : Controller → Controller) :
    (p.modify t f).count = p.count := by cases t <;> rfl

/-- A list of events is taken in two parts. -/
theorem Panel.run_append (c : Cfg) (p : Panel) (es es' : List Event) :
    Panel.run c p (es ++ es') = Panel.run c (Panel.run c p es) es' := by
  induction es generalizing p with
  | nil => rfl
  | cons e rest ih => exact ih (p.take c e)

/-- Whatever the panel, the events change the controller `t` by `f` and leave the other alone. -/
structure Drives (c : Cfg) (t : Target) (es : List Event) (f : Controller → Controller) : Prop where
  target : ∀ p : Panel, (Panel.run c p es).controller t = f (p.controller t)
  other : ∀ (p : Panel) (t' : Target), t' ≠ t → (Panel.run c p es).controller t' = p.controller t'

theorem Drives.append {c : Cfg} {t : Target} {es es' : List Event} {f g : Controller → Controller}
    (h : Drives c t es f) (h' : Drives c t es' g) : Drives c t (es ++ es') (fun k => g (f k)) where
  target p := by rw [Panel.run_append, h'.target, h.target]
  other p t' ht := by rw [Panel.run_append, h'.other _ _ ht, h.other _ _ ht]

theorem Drives.delay (c : Cfg) (t : Target) (ms : Nat) : Drives c t [.delay ms] id := ⟨fun _ => rfl, fun _ _ _ => rfl⟩

/-! ### A command and its parameters -/

/-- The parameters of a command taken in order, the first being number `n`. -/
def Controller.parameters (c : Cfg) (code : Byte) : Nat → List Byte → Controller → Controller
  | _, [], k => k
  | n, d :: rest, k => Controller.parameters c code (n + 1) rest (k.parameter c code n d)

/-- One parameter of the last command goes to the controller its target bit names. -/
theorem Panel.take_data {c : Cfg} {p : Panel} {code : Byte} {t : Target} (hcode : code.msb = false)
    (hlast : p.last = code ||| t.bit) (d : Byte) :
    p.take c (.data d)
      = ({ p with count := p.count + 1 } : Panel).modify t (Controller.parameter c code p.count d) := by
  simp only [Panel.take]
  rw [hlast, target_of_code code hcode, masked_code code hcode]

theorem Panel.run_data {c : Cfg} {code : Byte} {t : Target} (hcode : code.msb = false) (ds : List Byte) (p : Panel)
    (hlast : p.last = code ||| t.bit) :
    (Panel.run c p (ds.map .data)).controller t = (p.controller t).parameters c code p.count ds ∧
      ∀ t', t' ≠ t → (Panel.run c p (ds.map .data)).controller t' = p.controller t' := by
  induction ds generalizing p with
  | nil => exact ⟨rfl, fun _ _ => rfl⟩
  | cons d rest ih =>
    rw [List.map_cons, Panel.run, Panel.take_data hcode hlast]
    obtain ⟨htarget, hother⟩ := ih (({ p with count := p.count + 1 } : Panel).modify t _) (by simpa using hlast)
    refine ⟨?_, fun t' ht => ?_⟩
    · rw [htarget, Panel.controller_modify_same, Panel.modify_count]
      cases t <;> rfl
    · rw [hother t' ht, Panel.controller_modify_other _ ht]
      cases t' <;> rfl

/-- A command that selects no plane drives its target by its parameters. -/
theorem Drives.command {c : Cfg} {code : Byte} (t : Target) (ps : List Byte) (hcode : code.msb = false)
    (hplane : planeOfCode code = none) :
    Drives c t (commandEvents (code ||| t.bit) ps) (Controller.parameters c code 0 ps) := by
  have htake : ∀ p : Panel, p.take c (.cmd (code ||| t.bit)) = { p with last := code ||| t.bit, count := 0 } := by
    intro p
    simp only [Panel.take, masked_code code hcode, hplane]
  have hrun : ∀ p : Panel, Panel.run c p (commandEvents (code ||| t.bit) ps)
      = Panel.run c { p with last := code ||| t.bit, count := 0 } (ps.map .data) := by
    intro p
    rw [commandEvents, Panel.run, htake]
  refine ⟨fun p => ?_, fun p t' ht => ?_⟩
  · rw [hrun, (Panel.run_data hcode ps _ rfl).1]
    cases t <;> rfl
  · rw [hrun, (Panel.run_data hcode ps _ rfl).2 t' ht]
    cases t' <;> rfl

/-! ### A plane command and its transfer -/

/-- The master form of a plane's command selects that plane. -/
theorem planeOfCode_planeCode (plane : Plane) : planeOfCode (planeCode plane) = some plane := by cases plane <;> rfl

theorem planeCode_msb (plane : Plane) : (planeCode plane).msb = false := by cases plane <;> rfl

/-- The bytes of a transfer are stored one by one in the controller of the last plane command. -/
theorem Panel.run_bulk {c : Cfg} {plane : Plane} {t : Target} (bytes : List Byte) (p : Panel)
    (hlast : p.last = planeCode plane ||| t.bit) :
    (Panel.run c p (bytes.map .bulk ++ [.endTransfer])).controller t = bytes.foldl Controller.store (p.controller t) ∧
      ∀ t', t' ≠ t → (Panel.run c p (bytes.map .bulk ++ [.endTransfer])).controller t' = p.controller t' := by
  induction bytes generalizing p with
  | nil => exact ⟨rfl, fun _ _ => rfl⟩
  | cons d rest ih =>
    have htake : p.take c (.bulk d) = p.modify t fun k => k.store d := by
      simp only [Panel.take, hlast, masked_code _ (planeCode_msb plane), target_of_code _ (planeCode_msb plane),
        planeOfCode_planeCode]
    rw [List.map_cons, List.cons_append, Panel.run, htake]
    obtain ⟨htarget, hother⟩ := ih (p.modify t fun k => k.store d) (by simpa using hlast)
    refine ⟨?_, fun t' ht => ?_⟩
    · rw [htarget, Panel.controller_modify_same, List.foldl_cons]
    · rw [hother t' ht, Panel.controller_modify_other _ ht]

/-- A plane command and its transfer select the plane and store the bytes. -/
theorem Drives.transfer (c : Cfg) (t : Target) (plane : Plane) (bytes : List Byte) :
    Drives c t (planeCommand plane t :: transfer bytes)
      fun k => bytes.foldl Controller.store { k with selected := plane } := by
  have hrun : ∀ p : Panel, Panel.run c p (planeCommand plane t :: Machine.transfer bytes)
      = Panel.run c (({ p with last := planeCode plane ||| t.bit, count := 0 } : Panel).modify t
          fun k => { k with selected := plane }) (bytes.map .bulk ++ [.endTransfer]) := by
    intro p
    simp only [planeCommand, Machine.transfer, Panel.run, Panel.take, masked_code _ (planeCode_msb plane),
      target_of_code _ (planeCode_msb plane), planeOfCode_planeCode]
  refine ⟨fun p => ?_, fun p t' ht => ?_⟩
  · rw [hrun, (Panel.run_bulk bytes _ (Panel.modify_last ..)).1, Panel.controller_modify_same]
    cases t <;> rfl
  · rw [hrun, (Panel.run_bulk bytes _ (Panel.modify_last ..)).2 t' ht, Panel.controller_modify_other _ ht]
    cases t' <;> rfl

/-! ### SetWindow -/

/-- CMD_ENTRY_MODE is none of the window and plane commands, and the four scan bytes differ. -/
theorem sinkCfg_entryMode {c : Cfg} (h : sinkCfg c = true) :
    c.cmdEntryMode.msb = false ∧ (∀ code ∈ fixedCommandCodes, c.cmdEntryMode ≠ code) ∧
      [scanByte c .xIncYInc, scanByte c .xDecYInc, scanByte c .xIncYDec, scanByte c .xDecYDec].Nodup := by
  simp only [sinkCfg, Cfg.entryModeFree, Bool.and_eq_true, Bool.not_eq_true', decide_eq_true_eq] at h
  obtain ⟨⟨⟨hmsb, hfree⟩, hnodup⟩, -⟩ := h
  refine ⟨hmsb, fun code hmem heq => ?_, hnodup⟩
  rw [heq, List.contains_iff_mem.2 hmem] at hfree
  cases hfree

/-- A scan byte names its mode. -/
theorem scanModeOf_scanByte {c : Cfg} (h : sinkCfg c = true) (m old : ScanMode) : scanModeOf c (scanByte c m) old = m := by
  obtain ⟨-, -, hnodup⟩ := sinkCfg_entryMode h
  simp only [List.nodup_cons, List.mem_cons, List.not_mem_nil, or_false, not_or] at hnodup
  obtain ⟨⟨h01, h02, h03⟩, ⟨h12, h13⟩, h23, -⟩ := hnodup
  unfold scanModeOf
  cases m <;> simp [Ne.symm h01, Ne.symm h02, Ne.symm h03, Ne.symm h12, Ne.symm h13, Ne.symm h23]

/-- The entry-mode command sets the mode. -/
theorem entryMode_parameter {c : Cfg} (h : sinkCfg c = true) (m : ScanMode) (k : Controller) :
    k.parameter c c.cmdEntryMode 0 (scanByte c m) = { k with mode := m } := by
  obtain ⟨-, hfree, -⟩ := sinkCfg_entryMode h
  have hcode : ∀ code ∈ fixedCommandCodes, c.cmdEntryMode.toNat ≠ code.toNat :=
    fun code hmem heq => hfree code hmem (BitVec.eq_of_toNat_eq heq)
  simp only [fixedCommandCodes, List.forall_mem_cons] at hcode
  unfold Controller.parameter
  split <;> simp_all [scanModeOf_scanByte]

/-- The two bytes of a row set it, whatever it was (20_memory.md R35). -/
theorem withHigh_withLow (v row : Half) : withHigh (withLow v (row.extractLsb' 0 8)) (row.extractLsb' 8 8) = row := by
  have hlow : (withLow v (row.extractLsb' 0 8)).extractLsb' 0 8 = row.extractLsb' 0 8 :=
    BitVec.extractLsb'_append_eq_right
  rw [withHigh, hlow, row_halves]

/-- A controller with its window and its counters set. -/
def Controller.window (m : ScanMode) (xa xb : Byte) (ya yb : Half) (k : Controller) : Controller :=
  { k with mode := m, xa := xa, xb := xb, ya := ya, yb := yb, cx := xa, cy := ya }

/-- SetWindow sets the window and both counters to its start (41_ram_window.md R85). -/
theorem Drives.setWindow {c : Cfg} (h : sinkCfg c = true) (t : Target) (m : ScanMode) (lx ly w h' : Int) :
    Drives c t (setWindow c t m lx ly w h')
      (Controller.window m (lo8 (columnEnds m lx w).1) (lo8 (columnEnds m lx w).2)
        (BitVec.ofInt 16 (rowEnds m ly h').1) (BitVec.ofInt 16 (rowEnds m ly h').2)) := by
  obtain ⟨hmsb, hfree, -⟩ := sinkCfg_entryMode h
  have hplane : planeOfCode c.cmdEntryMode = none := by
    rw [planeOfCode, if_neg (hfree 0x24 (by decide)), if_neg (hfree 0x26 (by decide))]
  have hall := (((((Drives.command (c := c) t [scanByte c m] hmsb hplane).append
    (.command (code := 0x44) t [lo8 (columnEnds m lx w).1, lo8 (columnEnds m lx w).2] rfl rfl)).append
    (.command (code := 0x45) t [lo8 (rowEnds m ly h').1, hi8 (rowEnds m ly h').1, lo8 (rowEnds m ly h').2,
      hi8 (rowEnds m ly h').2] rfl rfl)).append
    (.command (code := 0x4E) t [lo8 (columnEnds m lx w).1] rfl rfl)).append
    (.command (code := 0x4F) t [lo8 (rowEnds m ly h').1, hi8 (rowEnds m ly h').1] rfl rfl)).append
    (.delay c t c.windowSettleMs)
  refine ⟨fun p => (hall.target p).trans ?_, hall.other⟩
  simp only [Controller.parameters, entryMode_parameter h, lo8_eq (rowEnds m ly h').1, lo8_eq (rowEnds m ly h').2, hi8_eq]
  simp [Controller.parameter, Controller.window, withHigh_withLow]

/-- A plane block sets the window, selects the plane and stores the bytes (44_write_ops.md R131). -/
theorem Drives.planeBlock {c : Cfg} (h : sinkCfg c = true) (plane : Plane) (sub : SubRect) (bytes : List Byte) :
    Drives c sub.target (planeBlock c plane sub bytes) fun k => bytes.foldl Controller.store
      { k.window sub.scan (lo8 (columnEnds sub.scan sub.lx sub.w).1) (lo8 (columnEnds sub.scan sub.lx sub.w).2)
          (BitVec.ofInt 16 (rowEnds sub.scan sub.ly sub.h).1) (BitVec.ofInt 16 (rowEnds sub.scan sub.ly sub.h).2) with
        selected := plane } :=
  (Drives.setWindow h _ _ _ _ _ _).append (.transfer c sub.target plane bytes)

end Sys2Proof.Machine
end

section
/-! The bytes that the optional sink stores (93_implementation_defined.md G7): the counters walk the window row by row, so
byte `j` of row `i` comes to column `j` and row `i` of the walk, and no other cell changes. -/

namespace Sys2Proof.Machine

open Sys2Proof.Safety

/-! ### Cells -/

/-- Bytes written one by one to numbered addresses, the first to number `n`. -/
def Memory.writeFrom (key : Nat → Nat) : Nat → List Byte → Memory → Memory
  | _, [], m => m
  | n, d :: rest, m => Memory.writeFrom key (n + 1) rest (Memory.write m (key n) d)

/-- An address that is none of them reads as before. -/
theorem Memory.read_writeFrom_other {key : Nat → Nat} {a n : Nat} {ds : List Byte} {m : Memory}
    (h : ∀ i, n ≤ i → i < n + ds.length → a ≠ key i) :
    Memory.read? (Memory.writeFrom key n ds m) a = Memory.read? m a := by
  induction ds generalizing n m with
  | nil => rfl
  | cons d rest ih =>
    rw [List.length_cons] at h
    rw [Memory.writeFrom, ih fun i hi hi' => h i (by omega) (by omega), read_write_other m d (h n le_rfl (by omega))]

/-- If the addresses differ, each holds its byte. -/
theorem Memory.read_writeFrom {key : Nat → Nat} {n i : Nat} {ds : List Byte} {m : Memory} (hi : i < ds.length)
    (hkey : ∀ j j', j < n + ds.length → j' < n + ds.length → key j = key j' → j = j') :
    Memory.read? (Memory.writeFrom key n ds m) (key (n + i)) = ds[i]? := by
  induction ds generalizing n i m with
  | nil => cases hi
  | cons d rest ih =>
    rw [List.length_cons] at hi hkey
    rw [Memory.writeFrom]
    cases i with
    | zero =>
      have hother : ∀ j, n + 1 ≤ j → j < n + 1 + rest.length → key (n + 0) ≠ key j := fun j hj hj' heq => by
        have := hkey (n + 0) j (by omega) (by omega) heq
        omega
      rw [Memory.read_writeFrom_other hother]
      simp
    | succ i =>
      rw [show n + (i + 1) = n + 1 + i by omega, ih (by omega) fun j j' hj hj' => hkey j j' (by omega) (by omega)]
      simp

/-- Two numbers in range that make the same word are equal. -/
theorem ofInt_inj {n : Nat} {a b : Int} (ha : 0 ≤ a ∧ a < 2 ^ n) (hb : 0 ≤ b ∧ b < 2 ^ n) :
    BitVec.ofInt n a = BitVec.ofInt n b ↔ a = b := by
  refine ⟨fun h => ?_, fun h => by rw [h]⟩
  have htoNat := congrArg (fun v : BitVec n => (v.toNat : Int)) h
  simp only [BitVec.toNat_ofInt] at htoNat
  push_cast at htoNat
  rw [Int.emod_eq_of_lt ha.1 ha.2, Int.emod_eq_of_lt hb.1 hb.2] at htoNat
  omega

/-- One less makes the word before. -/
theorem ofInt_pred {n : Nat} (a : Int) : BitVec.ofInt n (a - 1) = BitVec.ofInt n a - 1 := by
  rw [Int.sub_eq_add_neg, BitVec.ofInt_add, BitVec.ofInt_neg, ← BitVec.sub_eq_add_neg]
  simp

/-- The key of a cell determines its column and its row. -/
theorem cellKey_inj {col col' : Byte} {row row' : Half} :
    cellKey col row = cellKey col' row' ↔ (col, row) = (col', row') := by
  have hc := col.isLt
  have hc' := col'.isLt
  simp only [cellKey, Prod.mk.injEq, ← BitVec.toNat_inj]
  omega

/-! ### The walk of the counters -/

/-- A window as the counters walk it: its mode, the column and the row it starts at, how many columns and rows it has. -/
structure Walk where
  mode : ScanMode
  x : Int
  y : Int
  cols : Nat
  rows : Nat

/-- Column `j` of the walk. -/
def Walk.col (v : Walk) (j : Nat) : Int := if scanIncX v.mode then v.x + j else v.x - j

/-- Row `i` of the walk. -/
def Walk.row (v : Walk) (i : Nat) : Int := if scanIncY v.mode then v.y + i else v.y - i

/-- The cell of byte `j` of row `i`. -/
def Walk.cell (v : Walk) (i j : Nat) : Byte × Half := (BitVec.ofInt 8 (v.col j), BitVec.ofInt 16 (v.row i))

/-- The key of byte number `n` of the walk. -/
def Walk.key (v : Walk) (n : Nat) : Nat :=
  cellKey (v.cell (n / v.cols) (n % v.cols)).1 (v.cell (n / v.cols) (n % v.cols)).2

/-- The columns and the rows of the walk fit the counters (30_encoding.md R60). -/
structure Walk.Fits (v : Walk) : Prop where
  col : ∀ j, j < v.cols → 0 ≤ v.col j ∧ v.col j < 2 ^ 8
  row : ∀ i, i < v.rows → 0 ≤ v.row i ∧ v.row i < 2 ^ 16

theorem Walk.key_eq (v : Walk) (i : Nat) {j : Nat} (hj : j < v.cols) :
    v.key (i * v.cols + j) = cellKey (v.cell i j).1 (v.cell i j).2 := by
  rw [Walk.key, Nat.mul_comm, Nat.mul_add_div (by omega), Nat.mul_add_mod, Nat.div_eq_of_lt hj, Nat.mod_eq_of_lt hj,
    Nat.add_zero]

/-- Columns that make the same byte are one column. -/
theorem Walk.col_inj {v : Walk} (h : v.Fits) {j j' : Nat} (hj : j < v.cols) (hj' : j' < v.cols) :
    BitVec.ofInt 8 (v.col j) = BitVec.ofInt 8 (v.col j') ↔ j = j' := by
  rw [ofInt_inj (h.col j hj) (h.col j' hj'), Walk.col, Walk.col]
  split <;> omega

/-- Rows that make the same 16 bits are one row. -/
theorem Walk.row_inj {v : Walk} (h : v.Fits) {i i' : Nat} (hi : i < v.rows) (hi' : i' < v.rows) :
    BitVec.ofInt 16 (v.row i) = BitVec.ofInt 16 (v.row i') ↔ i = i' := by
  rw [ofInt_inj (h.row i hi) (h.row i' hi'), Walk.row, Walk.row]
  split <;> omega

/-- No cell is walked twice. -/
theorem Walk.key_inj {v : Walk} (h : v.Fits) {n n' : Nat} (hn : n < v.rows * v.cols) (hn' : n' < v.rows * v.cols)
    (heq : v.key n = v.key n') : n = n' := by
  have hcols : 0 < v.cols := Nat.pos_of_mul_pos_left (Nat.zero_lt_of_lt hn)
  obtain ⟨hcol, hrow⟩ := Prod.mk.inj (cellKey_inj.1 heq)
  have hj := (Walk.col_inj h (Nat.mod_lt n hcols) (Nat.mod_lt n' hcols)).1 hcol
  have hi := (Walk.row_inj h (Nat.div_lt_of_lt_mul (Nat.mul_comm _ _ ▸ hn))
    (Nat.div_lt_of_lt_mul (Nat.mul_comm _ _ ▸ hn'))).1 hrow
  rw [← Nat.div_add_mod n v.cols, ← Nat.div_add_mod n' v.cols, hi, hj]

/-- A controller whose window is the walk's. -/
structure Walk.Loaded (v : Walk) (k : Controller) : Prop where
  mode : k.mode = v.mode
  xa : k.xa = BitVec.ofInt 8 (v.col 0)
  xb : k.xb = BitVec.ofInt 8 (v.col (v.cols - 1))
  ya : k.ya = BitVec.ofInt 16 (v.row 0)
  yb : k.yb = BitVec.ofInt 16 (v.row (v.rows - 1))

/-- Its counters are at byte `j` of row `i`. -/
structure Walk.At (v : Walk) (i j : Nat) (k : Controller) : Prop extends v.Loaded k where
  cx : k.cx = BitVec.ofInt 8 (v.col j)
  cy : k.cy = BitVec.ofInt 16 (v.row i)

/-- The next column is one counter step on. -/
theorem Walk.col_succ (v : Walk) (j : Nat) : BitVec.ofInt 8 (v.col (j + 1))
    = if scanIncX v.mode then BitVec.ofInt 8 (v.col j) + 1 else BitVec.ofInt 8 (v.col j) - 1 := by
  unfold Walk.col
  split
  · rw [Nat.cast_succ, ← Int.add_assoc, BitVec.ofInt_add]
    rfl
  · rw [Nat.cast_succ, ← Int.sub_sub, ofInt_pred]

/-- So is the next row. -/
theorem Walk.row_succ (v : Walk) (i : Nat) : BitVec.ofInt 16 (v.row (i + 1))
    = if scanIncY v.mode then BitVec.ofInt 16 (v.row i) + 1 else BitVec.ofInt 16 (v.row i) - 1 := by
  unfold Walk.row
  split
  · rw [Nat.cast_succ, ← Int.add_assoc, BitVec.ofInt_add]
    rfl
  · rw [Nat.cast_succ, ← Int.sub_sub, ofInt_pred]

/-! ### Stores -/

/-- Stepping the counters leaves the planes and the selection. -/
@[simp] theorem Controller.advance_plane (k : Controller) (q : Plane) : k.advance.plane q = k.plane q := by
  unfold Controller.advance
  split <;> cases q <;> rfl

@[simp] theorem Controller.advance_selected (k : Controller) : k.advance.selected = k.selected := by
  unfold Controller.advance
  split <;> rfl

theorem Controller.store_plane_selected (k : Controller) (d : Byte) :
    (k.store d).plane k.selected = Memory.write (k.plane k.selected) (cellKey k.cx k.cy) d := by
  rw [Controller.store, Controller.advance_plane]
  cases k.selected <;> rfl

theorem Controller.store_plane_other (k : Controller) (d : Byte) {q : Plane} (h : q ≠ k.selected) :
    (k.store d).plane q = k.plane q := by
  rw [Controller.store, Controller.advance_plane]
  cases hs : k.selected <;> cases q
  · exact absurd hs.symm h
  · rfl
  · rfl
  · exact absurd hs.symm h

@[simp] theorem Controller.store_selected (k : Controller) (d : Byte) : (k.store d).selected = k.selected := by
  rw [Controller.store, Controller.advance_selected]
  cases k.selected <;> rfl

theorem Walk.Loaded.advance {v : Walk} {k : Controller} (h : v.Loaded k) : v.Loaded k.advance := by
  obtain ⟨hmode, hxa, hxb, hya, hyb⟩ := h
  unfold Controller.advance
  split <;> exact ⟨hmode, hxa, hxb, hya, hyb⟩

/-- Inside a row the counters step to the next column. -/
theorem Walk.At.advance_column {v : Walk} {k : Controller} {i j : Nat} (hv : v.Fits) (h : v.At i j k)
    (hj : j + 1 < v.cols) : v.At i (j + 1) k.advance := by
  have hend : k.cx ≠ k.xb := by
    rw [h.cx, h.xb, Ne, Walk.col_inj hv (by omega) (by omega)]
    omega
  refine ⟨h.toLoaded.advance, ?_, ?_⟩
  · rw [Controller.advance, if_neg hend, Walk.col_succ, ← h.cx, ← h.mode]
  · rw [Controller.advance, if_neg hend]
    exact h.cy

/-- At the end of a row they step to the start of the next. -/
theorem Walk.At.advance_row {v : Walk} {k : Controller} {i j : Nat} (hv : v.Fits) (h : v.At i j k)
    (hj : j + 1 = v.cols) (hi : i + 1 < v.rows) : v.At (i + 1) 0 k.advance := by
  have hend : k.cx = k.xb := by
    rw [h.cx, h.xb, ← hj]
    rfl
  have hlast : k.cy ≠ k.yb := by
    rw [h.cy, h.yb, Ne, Walk.row_inj hv (by omega) (by omega)]
    omega
  refine ⟨h.toLoaded.advance, ?_, ?_⟩
  · rw [Controller.advance, if_pos hend]
    exact h.xa
  · rw [Controller.advance, if_pos hend, Walk.row_succ, ← h.cy, ← h.mode]
    exact if_neg hlast

/-- So a step leads from byte number `n` of the walk to the next. -/
theorem Walk.At.advance {v : Walk} {k : Controller} {n : Nat} (hv : v.Fits) (h : v.At (n / v.cols) (n % v.cols) k)
    (hn : n + 1 < v.rows * v.cols) : v.At ((n + 1) / v.cols) ((n + 1) % v.cols) k.advance := by
  have hcols : 0 < v.cols := Nat.pos_of_mul_pos_left (Nat.zero_lt_of_lt hn)
  have hmod := Nat.mod_lt n hcols
  have hsplit := Nat.div_add_mod n v.cols
  rcases Nat.lt_or_ge (n % v.cols + 1) v.cols with hj | hj
  · have hnext : n + 1 = v.cols * (n / v.cols) + (n % v.cols + 1) := by omega
    rw [hnext, Nat.mul_add_div hcols, Nat.mul_add_mod, Nat.div_eq_of_lt hj, Nat.mod_eq_of_lt hj, Nat.add_zero]
    exact h.advance_column hv hj
  · have hj : n % v.cols + 1 = v.cols := by omega
    have hnext : n + 1 = v.cols * (n / v.cols + 1) := by rw [Nat.mul_succ]; omega
    have hi : n / v.cols + 1 < v.rows := by
      rw [hnext, Nat.mul_comm] at hn
      exact Nat.lt_of_mul_lt_mul_right hn
    rw [hnext, Nat.mul_div_cancel_left _ hcols, Nat.mul_mod_right]
    exact h.advance_row hv hj hi

/-- A store does too. -/
theorem Walk.At.store {v : Walk} {k : Controller} {n : Nat} (hv : v.Fits) (h : v.At (n / v.cols) (n % v.cols) k)
    (hn : n + 1 < v.rows * v.cols) (d : Byte) : v.At ((n + 1) / v.cols) ((n + 1) % v.cols) (k.store d) := by
  obtain ⟨⟨hmode, hxa, hxb, hya, hyb⟩, hcx, hcy⟩ := h
  unfold Controller.store
  cases k.selected <;> exact Walk.At.advance hv ⟨⟨hmode, hxa, hxb, hya, hyb⟩, hcx, hcy⟩ hn

/-- Bytes stored from byte number `n` of the walk come to its cells in order, in the selected plane. -/
theorem Walk.stores {v : Walk} (hv : v.Fits) {plane : Plane} (bytes : List Byte) {n : Nat} {k : Controller}
    (hat : n < v.rows * v.cols → v.At (n / v.cols) (n % v.cols) k) (hlen : n + bytes.length ≤ v.rows * v.cols)
    (hsel : k.selected = plane) :
    (bytes.foldl Controller.store k).plane plane = Memory.writeFrom v.key n bytes (k.plane plane) ∧
      ∀ q, q ≠ plane → (bytes.foldl Controller.store k).plane q = k.plane q := by
  induction bytes generalizing n k with
  | nil => exact ⟨rfl, fun _ _ => rfl⟩
  | cons d rest ih =>
    subst hsel
    rw [List.length_cons] at hlen
    have hhere := hat (by omega)
    obtain ⟨hplane, hother⟩ := ih (fun hn => hhere.store hv hn d) (by omega) (k.store_selected d)
    refine ⟨?_, fun q hq => ?_⟩
    · rw [List.foldl_cons, hplane, k.store_plane_selected, hhere.cx, hhere.cy]
      rfl
    · rw [List.foldl_cons, hother q hq, k.store_plane_other d hq]

/-! ### The window of a sub-rectangle -/

/-- The walk of a sub-rectangle's window (41_ram_window.md R85). -/
def SubRect.walk (sub : SubRect) : Walk where
  mode := sub.scan
  x := (columnEnds sub.scan sub.lx sub.w).1
  y := (rowEnds sub.scan sub.ly sub.h).1
  cols := (sub.w / 8).toNat
  rows := sub.h.toNat

/-- It ends where the window ends, and fits the counters of the largest panel (30_encoding.md R60). -/
theorem SubRect.InRam.walk_fits {c : Cfg} {sub : SubRect} (hc : c.geometryOk = true) (h : sub.InRam c) :
    sub.walk.Fits ∧ sub.walk.col (sub.walk.cols - 1) = (columnEnds sub.scan sub.lx sub.w).2 ∧
      sub.walk.row (sub.walk.rows - 1) = (rowEnds sub.scan sub.ly sub.h).2 := by
  have hpanel := panel_bounds hc
  obtain ⟨⟨hlx, hlx8⟩, ⟨hw, hw8⟩, hright, hly, hh, hbottom⟩ := h
  unfold controllerWidth at hright
  unfold controllerHeight at hbottom
  refine ⟨⟨fun j hj => ?_, fun i hi => ?_⟩, ?_, ?_⟩
  · simp only [SubRect.walk, Walk.col, columnEnds] at hj ⊢
    split <;> omega
  · simp only [SubRect.walk, Walk.row, rowEnds] at hi ⊢
    split <;> omega
  · simp only [SubRect.walk, Walk.col, columnEnds]
    split <;> omega
  · simp only [SubRect.walk, Walk.row, rowEnds]
    split <;> omega

/-- The cells of a SLAVE sub-rectangle are its global byte columns and rows (40_partitioner.md R75). -/
theorem SubRect.Lies.walk_cell_slave {c : Cfg} {clip : Clip} {sub : SubRect} (h : sub.Lies c clip)
    (ht : sub.target = .slave) (i j : Nat) :
    sub.walk.cell i j = (BitVec.ofInt 8 (sub.left clip / 8 + j), BitVec.ofInt 16 (sub.top clip + i)) := by
  have hside := h.side
  rw [ht] at hside
  obtain ⟨hscan, hlx, hly, -⟩ := hside
  simp [Walk.cell, Walk.col, Walk.row, SubRect.walk, columnEnds, rowEnds, scanIncX, scanIncY, hscan, hlx, hly]

/-- Those of a MASTER sub-rectangle are reflected in both axes (R75). -/
theorem SubRect.Lies.walk_cell_master {c : Cfg} {clip : Clip} {sub : SubRect} (hc : c.geometryOk = true)
    (h : sub.Lies c clip) (h8 : sub.left clip % 8 = 0) (ht : sub.target = .master) (i j : Nat) :
    sub.walk.cell i j = (BitVec.ofInt 8 (panelWidth c / 8 - 1 - (sub.left clip / 8 + j)),
      BitVec.ofInt 16 (panelHeight c - 1 - (sub.top clip + i))) := by
  have hpanel := panel_bounds hc
  have hside := h.side
  rw [ht] at hside
  obtain ⟨hscan, hlx, hly, -⟩ := hside
  have hcol : sub.walk.col j = panelWidth c / 8 - 1 - (sub.left clip / 8 + j) := by
    simp only [Walk.col, SubRect.walk, columnEnds, scanIncX, hscan, hlx]
    simp
    omega
  have hrow : sub.walk.row i = panelHeight c - 1 - (sub.top clip + i) := by
    simp only [Walk.row, SubRect.walk, rowEnds, scanIncY, hscan, hly]
    simp
    omega
  rw [Walk.cell, hcol, hrow]

/-- A plane block stores its bytes along the walk of its window in its plane, and leaves the controller's other plane. -/
theorem planeBlock_stores {c : Cfg} (hc : c.geometryOk = true) (hsink : sinkCfg c = true) {sub : SubRect}
    (hram : sub.InRam c) {bytes : List Byte} (hlen : bytes.length = sub.walk.rows * sub.walk.cols) (plane : Plane)
    (p : Panel) :
    ((Panel.run c p (planeBlock c plane sub bytes)).controller sub.target).plane plane
        = Memory.writeFrom sub.walk.key 0 bytes ((p.controller sub.target).plane plane) ∧
      ∀ q, q ≠ plane → ((Panel.run c p (planeBlock c plane sub bytes)).controller sub.target).plane q
        = (p.controller sub.target).plane q := by
  obtain ⟨hfits, hlastCol, hlastRow⟩ := hram.walk_fits hc
  have hcol0 : sub.walk.col 0 = (columnEnds sub.scan sub.lx sub.w).1 := by simp [Walk.col, SubRect.walk]
  have hrow0 : sub.walk.row 0 = (rowEnds sub.scan sub.ly sub.h).1 := by simp [Walk.row, SubRect.walk]
  have hat : ∀ k : Controller, sub.walk.At 0 0 { k.window sub.scan (lo8 (columnEnds sub.scan sub.lx sub.w).1)
      (lo8 (columnEnds sub.scan sub.lx sub.w).2) (BitVec.ofInt 16 (rowEnds sub.scan sub.ly sub.h).1)
      (BitVec.ofInt 16 (rowEnds sub.scan sub.ly sub.h).2) with selected := plane } := by
    intro k
    rw [← hcol0, ← hlastCol, ← hrow0, ← hlastRow]
    exact ⟨⟨rfl, rfl, rfl, rfl, rfl⟩, rfl, rfl⟩
  rw [(Drives.planeBlock hsink plane sub bytes).target]
  obtain ⟨hplane, hother⟩ := Walk.stores hfits bytes (n := 0) (plane := plane)
    (fun _ => by simpa using hat (p.controller sub.target)) (by omega) rfl
  refine ⟨?_, fun q hq => ?_⟩
  · rw [hplane]
    cases plane <;> rfl
  · rw [hother q hq]
    cases q <;> rfl

end Sys2Proof.Machine
end

section
/-! The statement of the memory family about the optional sink. -/

namespace Sys2Proof.Safety

open Sys2Proof.Machine

/-- Settles O57: the block's bytes go along the walk of the window, whose cells are those of the statement, each of them
once. -/
theorem sinkStoresBlockWhereItBelongs : Obligations.SinkStoresBlockWhereItBelongs := by
  unfold Obligations.SinkStoresBlockWhereItBelongs
  intro c p plane clip sub bytes hc hsink ha hsub hbytes after cell
  have hlies := partition_lies hsub
  have hram := partition_inRam hc ha hsub
  obtain ⟨h8, -⟩ := partition_aligned hc ha hsub
  obtain ⟨hfits, -⟩ := hram.walk_fits hc
  have hcell : ∀ i j, cell i j = sub.walk.cell i j := by
    intro i j
    cases ht : sub.target with
    | slave => simp only [cell, ht, hlies.walk_cell_slave ht, SubRect.left, SubRect.top]
    | master => simp only [cell, ht, hlies.walk_cell_master hc h8 ht, SubRect.left, SubRect.top]
  have hlen : bytes.length = sub.walk.rows * sub.walk.cols := by
    have hw := hram.w
    zify
    simp only [SubRect.walk]
    rw [hbytes, Int.toNat_of_nonneg hram.h.le, Int.toNat_of_nonneg (by omega), mul_comm]
  obtain ⟨hstored, hother⟩ := planeBlock_stores hc hsink hram hlen plane p
  have hrows : ∀ i : Nat, (i : Int) < sub.h ↔ i < sub.walk.rows := fun i => by simp only [SubRect.walk]; omega
  have hcols : ∀ j : Nat, (j : Int) < sub.w / 8 ↔ j < sub.walk.cols := fun j => by simp only [SubRect.walk]; omega
  refine ⟨fun i j hi hj => ?_, fun t q col row hnone => ?_⟩
  · rw [hrows] at hi
    rw [hcols] at hj
    have hn : i * sub.walk.cols + j < bytes.length := by
      rw [hlen]
      nlinarith
    rw [hcell, Panel.read?, hstored, ← sub.walk.key_eq i hj, ← Nat.zero_add (i * sub.walk.cols + j),
      Memory.read_writeFrom hn fun n n' hn hn' => Walk.key_inj hfits (by omega) (by omega)]
    rfl
  · rw [Panel.read?, Panel.read?]
    by_cases ht : t = sub.target
    · subst ht
      by_cases hq : q = plane
      · subst hq
        rw [hstored, Memory.read_writeFrom_other]
        intro n _ hn heq
        rw [hlen, Nat.zero_add] at hn
        have hpos : 0 < sub.walk.cols := Nat.pos_of_mul_pos_left (Nat.zero_lt_of_lt hn)
        refine hnone (n / sub.walk.cols) (n % sub.walk.cols) ((hrows _).2 ?_) ((hcols _).2 (Nat.mod_lt _ hpos))
          ⟨rfl, rfl, ?_⟩
        · exact Nat.div_lt_of_lt_mul (Nat.mul_comm _ _ ▸ hn)
        · rw [hcell]
          exact cellKey_inj.1 heq
      · rw [hother q hq]
    · rw [(Drives.planeBlock hsink plane sub bytes).other p t ht]

end Sys2Proof.Safety
end

section
/-! The encoding family (30_encoding.md). First the request descriptor (R50 to R55): what an operation takes of it depends
on the bits its row of R51 reads, and the fields of an encoded request are those it was encoded from. -/

namespace Sys2Proof

open Sys2Proof.Safety

/-! ### Masks -/

/-- Words that agree under a mask agree in every field the mask covers. -/
theorem field_eq_of_masked {w w' m : Word} {lo len : Nat} (h : w &&& m = w' &&& m)
    (hm : field m lo len = BitVec.allOnes len) : field w lo len = field w' lo len := by
  have hcut : ∀ v : Word, field (v &&& m) lo len = field v lo len := fun v =>
    calc field (v &&& m) lo len = field v lo len &&& field m lo len := BitVec.extractLsb'_and
      _ = field v lo len := by rw [hm, BitVec.and_allOnes]
  rw [← hcut w, h, hcut]

/-- They agree in every flag the mask covers. -/
theorem flag_eq_of_masked {w w' m : Word} {lo : Nat} (h : w &&& m = w' &&& m) (hm : flag m lo = true) :
    flag w lo = flag w' lo := by
  have hcut : ∀ v : Word, flag (v &&& m) lo = flag v lo := fun v => by
    simp only [flag] at hm ⊢
    rw [BitVec.getLsbD_and, hm, Bool.and_true]
  rw [← hcut w, h, hcut]

/-- They are equal when the mask covers the whole word. -/
theorem eq_of_masked {w w' m : Word} (h : w &&& m = w' &&& m) (hm : m = BitVec.allOnes 32) : w = w' := by
  rwa [hm, BitVec.and_allOnes, BitVec.and_allOnes] at h

/-- A mask that has ones in the bitmap's fields covers the bitmap arguments. -/
theorem agreeUnder_bitmap {m d d' : Descriptor} (h : agreeUnder m d d')
    (hm : m.bitmap = ⟨BitVec.allOnes 32, true, true, true⟩) : d.bitmap = d'.bitmap := by
  obtain ⟨h0, h1, -, -, -, -⟩ := h
  obtain ⟨hbase, hinvert, hmirror, hslow⟩ := BitmapArgs.mk.inj hm
  simp only [Descriptor.bitmap, eq_of_masked h1 hbase, flag_eq_of_masked h0 hinvert, flag_eq_of_masked h0 hmirror,
    flag_eq_of_masked h0 hslow]

/-- A mask that has ones in the rectangle's fields covers the rectangle. -/
theorem agreeUnder_rect {m d d' : Descriptor} (h : agreeUnder m d d')
    (hm : m.rect = ⟨BitVec.allOnes 16, BitVec.allOnes 16, BitVec.allOnes 16, BitVec.allOnes 16⟩) : d.rect = d'.rect := by
  obtain ⟨-, -, h2, h3, -, -⟩ := h
  obtain ⟨hx, hy, hw, hh⟩ := RectArgs.mk.inj hm
  simp only [Descriptor.rect, field_eq_of_masked h2 hx, field_eq_of_masked h2 hy, field_eq_of_masked h3 hw,
    field_eq_of_masked h3 hh]

/-- A mask that has ones in the part's fields covers the part. -/
theorem agreeUnder_part {m d d' : Descriptor} (h : agreeUnder m d d')
    (hm : m.part = ⟨BitVec.allOnes 16, BitVec.allOnes 16, BitVec.allOnes 16, BitVec.allOnes 16⟩) : d.part = d'.part := by
  obtain ⟨-, -, -, -, h4, h5⟩ := h
  obtain ⟨hx, hy, hw, hh⟩ := PartArgs.mk.inj hm
  simp only [Descriptor.part, field_eq_of_masked h4 hx, field_eq_of_masked h4 hy, field_eq_of_masked h5 hw,
    field_eq_of_masked h5 hh]

/-- Every operation reads its opcode. -/
theorem field_readMask_opcode (op : Byte) : field (readMask op).w0 0 8 = BitVec.allOnes 8 := by
  unfold readMask
  split <;> rfl

/-! ### Requests -/

/-- An opcode that R51 does not assign decodes to RESERVED (R54). -/
theorem decodeRequest_reserved {d : Descriptor} (h : opcodeAssigned (field d.w0 0 8) = false) :
    decodeRequest d = .reserved (field d.w0 0 8) := by
  simp only [opcodeAssigned, Bool.and_eq_false_iff, decide_eq_false_iff_not] at h
  unfold decodeRequest
  dsimp only
  split
  case h_19 => rfl
  all_goals omega

/-- Descriptors that agree in the bits that the first one's operation reads decode alike (R51, R52, R55). The rows of R51 are
taken in groups that read the same fields; each `hn` gives the opcode, and with it the row's mask. -/
theorem decodeRequest_eq_of_agreeUnder {d d' : Descriptor} (h : agreeUnder (readMask (field d.w0 0 8)) d d') :
    decodeRequest d = decodeRequest d' := by
  have hw0 : d.w0 &&& (readMask (field d.w0 0 8)).w0 = d'.w0 &&& (readMask (field d.w0 0 8)).w0 := h.1
  have hop : field d.w0 0 8 = field d'.w0 0 8 := field_eq_of_masked hw0 (field_readMask_opcode _)
  unfold decodeRequest
  rw [← hop]
  generalize field d.w0 0 8 = op at h hw0
  dsimp only
  split
  case h_1 _ hn | h_2 _ hn | h_3 _ hn =>
    simp only [readMask, hn] at hw0
    rw [field_eq_of_masked (lo := 16) hw0 rfl]
  case h_4 _ hn | h_5 _ hn | h_10 _ hn =>
    simp only [readMask, hn] at h
    rw [agreeUnder_bitmap h rfl, agreeUnder_rect h rfl]
  case h_6 _ hn | h_7 _ hn | h_11 _ hn =>
    simp only [readMask, hn] at h
    rw [agreeUnder_bitmap h rfl, agreeUnder_part h rfl, agreeUnder_rect h rfl]
  case h_8 _ hn | h_12 _ hn =>
    simp only [readMask, hn] at h hw0
    rw [field_eq_of_masked (lo := 24) hw0 rfl, agreeUnder_bitmap h rfl, agreeUnder_rect h rfl]
  case h_9 _ hn | h_13 _ hn =>
    simp only [readMask, hn] at h hw0
    rw [field_eq_of_masked (lo := 24) hw0 rfl, agreeUnder_bitmap h rfl, agreeUnder_part h rfl, agreeUnder_rect h rfl]
  case h_14 _ hn =>
    simp only [readMask, hn] at hw0
    rw [flag_eq_of_masked hw0 rfl]
  case h_15 _ hn =>
    simp only [readMask, hn] at h
    rw [agreeUnder_rect h rfl]
  case h_18 _ hn =>
    simp only [readMask, hn] at hw0
    rw [field_eq_of_masked (lo := 12) hw0 rfl]
  case h_16 | h_17 | h_19 => rfl

/-- The bitmap arguments of an encoded image operation. -/
@[simp] theorem bitmap_encoded (op v p : Byte) (part : Bool) (m : BitVec 2) (b : BitmapArgs) (w2 w3 w4 w5 : Word) :
    Descriptor.bitmap ⟨wordZero op b.invert b.mirrorY b.slow part m v p, b.base, w2, w3, w4, w5⟩ = b := by
  simp [Descriptor.bitmap]

/-- The rectangle of an encoded operation. -/
@[simp] theorem rect_encoded (w0 w1 w4 w5 : Word) (r : RectArgs) :
    Descriptor.rect ⟨w0, w1, twoHalves r.x r.y, twoHalves r.w r.h, w4, w5⟩ = r := by
  simp [Descriptor.rect]

/-- The part of an encoded operation. -/
@[simp] theorem part_encoded (w0 w1 w2 w3 : Word) (p : PartArgs) :
    Descriptor.part ⟨w0, w1, w2, w3, twoHalves p.xPart p.yPart, twoHalves p.wBitmap p.hBitmap⟩ = p := by
  simp [Descriptor.part]

/-- The request an instruction encodes to decodes to it: each field it reads is the one that was written. Only RESERVED needs
its well-formedness. -/
theorem decodeRequest_encode {c : Cfg} {i : Instr} {d : Descriptor} (hwf : i.wf c = true) (h : encode c i = .request d) :
    decodeRequest d = i := by
  cases i <;> cases h
  case reserved opcode =>
    have hop : opcodeAssigned opcode = false := by simpa [Instr.wf] using hwf
    rw [decodeRequest_reserved, field_wordZero_opcode]
    rwa [field_wordZero_opcode]
  all_goals simp [decodeRequest]

end Sys2Proof
end

section
/-! The controller commands (30_encoding.md R57, R58): which codes are read with their target bit masked off. -/

namespace Sys2Proof

/-- The ten codes without a target, as `decodeCommand` lists them (R57). -/
def plainCommandCodes : List Nat := [0x0C, 0x10, 0x12, 0x18, 0x1A, 0x20, 0x21, 0x22, 0x32, 0x3C]

/-- Every other code is read with its target bit masked off (R58). -/
theorem decodeCommand_targeted {c : Cfg} {code : Byte} (h : code.toNat ∉ plainCommandCodes) (operands : List Byte) :
    decodeCommand c (code :: operands) = decodeTargeted c code operands := by
  simp only [plainCommandCodes, List.mem_cons, List.not_mem_nil, or_false, not_or] at h
  unfold decodeCommand
  dsimp only
  split
  case h_11 => rfl
  all_goals omega

/-- A code that is no fixed command's and has bit 7 clear is, with either target bit, no code without a target. -/
theorem targeted_not_plain {e : Byte} (hmsb : e.msb = false) (hfree : e ∉ fixedCommandCodes) (t : Target) :
    (e ||| t.bit).toNat ∉ plainCommandCodes := by
  intro hmem
  have hplain : ∀ code : Byte, code.toNat ∈ plainCommandCodes → code &&& 0x7F ∈ fixedCommandCodes := by decide
  have hcode := hplain _ hmem
  rw [masked_code e hmsb t] at hcode
  exact hfree hcode

/-- `CFG.CMD_ENTRY_MODE` is read as CMD_ENTRY_MODE when it is no other command's code (R57, R86). -/
theorem decodeCommand_entryMode {c : Cfg} (h : c.entryModeFree = true) (t : Target) (scan : ScanMode) :
    decodeCommand c [c.cmdEntryMode ||| t.bit, scan.toByte] = .ok (.cmdEntryMode t scan) := by
  have hfree : c.cmdEntryMode.msb = false ∧ c.cmdEntryMode ∉ fixedCommandCodes := by
    simpa [Cfg.entryModeFree] using h
  obtain ⟨hmsb, hfixed⟩ := hfree
  rw [decodeCommand_targeted (targeted_not_plain hmsb hfixed t)]
  unfold decodeTargeted
  rw [masked_code _ hmsb, target_of_code _ hmsb]
  have htargeted : ∀ code : Byte, code.toNat ∈ [0x24, 0x26, 0x44, 0x45, 0x4E, 0x4F] → code ∈ fixedCommandCodes := by
    decide
  dsimp only
  split
  case h_7 => simp [withScanMode]
  all_goals
    next hn => exact absurd (htargeted _ (by simp [hn])) hfixed

/-- The command an instruction encodes to decodes to it. -/
theorem decodeCommand_encode {c : Cfg} {i : Instr} {bytes : List Byte} (hwf : i.wf c = true)
    (h : encode c i = .command bytes) : decodeCommand c bytes = .ok i := by
  cases i <;> cases h
  case cmdEntryMode t scan => exact decodeCommand_entryMode hwf t scan
  case cmdSetYRange t first last =>
    have hrows : decodeCommand c ((0x45 ||| t.bit) :: (rowBytes first ++ rowBytes last))
        = .ok (.cmdSetYRange t (first.extractLsb' 8 8 ++ first.extractLsb' 0 8)
            (last.extractLsb' 8 8 ++ last.extractLsb' 0 8)) := by
      cases t <;> rfl
    rw [hrows, row_halves, row_halves]
  case cmdSetYCounter t start =>
    have hrow : decodeCommand c ((0x4F ||| t.bit) :: rowBytes start)
        = .ok (.cmdSetYCounter t (start.extractLsb' 8 8 ++ start.extractLsb' 0 8)) := by
      cases t <;> rfl
    rw [hrow, row_halves]
  case cmdWriteCurrent t | cmdWritePrevious t | cmdSetXRange t _ _ | cmdSetXCounter t _ => cases t <;> rfl
  all_goals rfl

end Sys2Proof
end

section
/-! What a whole operation is, in the terms of the statements (60_exceptions.md R158). -/

namespace Sys2Proof.Machine

open Sys2Proof.Safety

/-- A body that answers the state it was given did nothing but present its code (R150, R151). -/
theorem operate_didNothing {s : State} {body : State → State × StatusCode} {code : StatusCode}
    (hb : body s.start = (s.start, code)) : DidNothing s (s.operate body) code := by
  rw [operate_nothing hb]
  exact
    { st := rfl
      events := rfl
      status := rfl
      idle := rfl
      done := rfl
      answers := ⟨rfl, rfl⟩
      environment := .of_fields rfl rfl rfl rfl rfl }

/-- A body in closed form gives its result. -/
theorem operate_result {s t : State} {st : DcpState} {es : List Event} {body : State → State × StatusCode}
    {code : StatusCode} (hb : body s.start = (t, code)) (h : Runs s.start t st es) :
    Result s (s.operate body) code st es := by
  obtain ⟨-, hst, hevents, -, -, -, -, hidle, hdone, hstatus, -⟩ := operate_runs hb h
  have henv : SameEnvironment s.start (body s.start).1 := by
    rw [hb]
    exact (SameEnvironment.refl s.start).run h
  exact ⟨hst, hevents, ⟨hidle, hdone, hstatus⟩, .operate henv⟩

/-! ### Early ends -/

/-- The three codes of an operation that ends before it does anything (R150). -/
def StatusCode.IsNoop (code : StatusCode) : Prop := code = .noopGeometry ∨ code = .noopBpp ∨ code = .noopReserved

theorem StatusCode.not_isNoop_ok : ¬StatusCode.ok.IsNoop := by simp [StatusCode.IsNoop]

/-- HIBERNATE without a reset line is none of the three: PowerOff comes before it (43_refresh_fsm.md R126). -/
theorem StatusCode.not_isNoop_hibernateSkipped : ¬StatusCode.hibernateSkipped.IsNoop := by simp [StatusCode.IsNoop]

/-- A body that answers a no-op code answers the state it was given. -/
def EndsEarly (body : State → State × StatusCode) : Prop := ∀ s, (body s).2.IsNoop → (body s).1 = s

namespace EndsEarly

theorem nothing (code : StatusCode) : EndsEarly fun s => (s, code) := fun _ _ => rfl

/-- A body that always answers OK never ends early. -/
theorem ok (f : State → State) : EndsEarly fun s => (f s, .ok) := fun _ h =>
  absurd h StatusCode.not_isNoop_ok

/-- The geometry of a write or a draw is an error, or the body answers OK (44_write_ops.md R130). -/
theorem planned {body : Except StatusCode WritePlan → State → State × StatusCode}
    (plan : Cfg → Except StatusCode WritePlan) (herror : ∀ code s, body (.error code) s = (s, code))
    (hok : ∀ p s, (body (.ok p) s).2 = .ok) : EndsEarly fun s => body (plan s.cfg) s := by
  intro s h
  dsimp only at h ⊢
  cases hp : plan s.cfg with
  | error code => rw [herror]
  | ok p =>
    rw [hp, hok] at h
    exact absurd h StatusCode.not_isNoop_ok

theorem monoWrite (planes : List Plane) (plan : Cfg → Except StatusCode WritePlan) :
    EndsEarly fun s => s.monoWrite planes (plan s.cfg) :=
  planned (body := fun plan s => s.monoWrite planes plan) plan (fun _ _ => rfl) fun _ _ => rfl

theorem monoDraw (plan : Cfg → Except StatusCode WritePlan) : EndsEarly fun s => s.monoDraw (plan s.cfg) :=
  planned (body := fun plan s => s.monoDraw plan) plan (fun _ _ => rfl) fun _ _ => rfl

/-- The bpp check comes before the geometry (60_exceptions.md R154, R157). -/
theorem withGreyFormat {body : GreyFormat → State → State × StatusCode} (bpp : Byte) (h : ∀ f, EndsEarly (body f)) :
    EndsEarly fun s => s.withGreyFormat bpp fun f => body f s := by
  intro s
  dsimp only [State.withGreyFormat]
  split
  · exact fun _ => rfl
  · next f _ => exact h f s

theorem greyWrite (f : GreyFormat) (plan : Cfg → Except StatusCode WritePlan) :
    EndsEarly fun s => s.greyWrite f (plan s.cfg) :=
  planned (body := fun plan s => s.greyWrite f plan) plan (fun _ _ => rfl) fun _ _ => rfl

theorem greyDraw (f : GreyFormat) (plan : Cfg → Except StatusCode WritePlan) :
    EndsEarly fun s => s.greyDraw f (plan s.cfg) :=
  planned (body := fun plan s => s.greyDraw f plan) plan (fun _ _ => rfl) fun _ _ => rfl

/-- A region refresh ends early on an empty region that no upgrade applies to, and is OK else (43_refresh_fsm.md R123). -/
theorem regionRefresh (r : Cfg → Rect) : EndsEarly fun s => s.regionRefresh (r s.cfg) := by
  intro s h
  dsimp only at h ⊢
  cases hu : s.st.upgradesRegion with
  | true =>
    rw [regionRefresh_upgraded s _ hu] at h
    exact absurd h StatusCode.not_isNoop_ok
  | false =>
    cases ha : alignRegion s.cfg (r s.cfg) with
    | none => rw [regionRefresh_empty s _ hu ha]
    | some _ =>
      simp only [State.regionRefresh, hu, ha, Bool.false_eq_true, if_false] at h
      exact absurd h StatusCode.not_isNoop_ok

theorem refreshBody (onlyPart : Bool) : EndsEarly fun s => s.refreshBody onlyPart := by
  cases onlyPart with
  | false => exact ok State.fullRefresh
  | true => exact regionRefresh panelRect

/-- HIBERNATE answers OK, or HIBERNATE_SKIPPED, which is no early end (43_refresh_fsm.md R126). -/
theorem hibernateBody : EndsEarly fun s => s.hibernateBody := by
  intro s h
  unfold State.hibernateBody at h
  dsimp only at h
  split at h
  · exact absurd h StatusCode.not_isNoop_ok
  · exact absurd h StatusCode.not_isNoop_hibernateSkipped

theorem setMode (mode : RefreshMode) : EndsEarly fun s => s.setMode mode := by
  cases mode with
  | forcedFullRefresh => exact ok _
  | fastRefresh => exact ok _
  | fullRefresh => exact nothing .noopReserved
  | greyRefresh => exact nothing .noopReserved

end EndsEarly

/-- A request is one operation whose body is lawful and ends early on the no-op codes. -/
theorem exec_request_endsEarly {i : Instr} (h : isRequest i = true) :
    ∃ body, Lawful body ∧ EndsEarly body ∧ ∀ s, exec i s = .next (s.operate body) := by
  cases i with
  | clearScreen value => exact ⟨_, .clearScreen value, .ok _, fun _ => rfl⟩
  | writeScreenBuffer value => exact ⟨_, .fillBody [.current] value, .ok _, fun _ => rfl⟩
  | writeScreenBufferAgain value => exact ⟨_, .fillBody [.previous, .current] value, .ok _, fun _ => rfl⟩
  | writeImage b r => exact ⟨_, .monoWrite _ (planImage · 1 b r), .monoWrite _ (planImage · 1 b r), fun _ => rfl⟩
  | writeImageAgain b r => exact ⟨_, .monoWrite _ (planImage · 1 b r), .monoWrite _ (planImage · 1 b r), fun _ => rfl⟩
  | writeImagePart b p r =>
    exact ⟨_, .monoWrite _ (planPart · 1 8 b p r), .monoWrite _ (planPart · 1 8 b p r), fun _ => rfl⟩
  | writeImagePartAgain b p r =>
    exact ⟨_, .monoWrite _ (planPart · 1 8 b p r), .monoWrite _ (planPart · 1 8 b p r), fun _ => rfl⟩
  | writeImage4G bpp b r =>
    exact ⟨_, .withGreyFormat bpp fun c f => .greyWrite f (planImage c f.bpp b r),
      .withGreyFormat bpp fun f => .greyWrite f (planImage · f.bpp b r), fun _ => rfl⟩
  | writeImagePart4G bpp b p r =>
    exact ⟨_, .withGreyFormat bpp fun c f => .greyWrite f (planPart c f.bpp f.ppb b p r),
      .withGreyFormat bpp fun f => .greyWrite f (planPart · f.bpp f.ppb b p r), fun _ => rfl⟩
  | drawImage b r => exact ⟨_, .monoDraw (planImage · 1 b r), .monoDraw (planImage · 1 b r), fun _ => rfl⟩
  | drawImagePart b p r => exact ⟨_, .monoDraw (planPart · 1 8 b p r), .monoDraw (planPart · 1 8 b p r), fun _ => rfl⟩
  | drawImage4G bpp b r =>
    exact ⟨_, .withGreyFormat bpp fun c f => .greyDraw f (planImage c f.bpp b r),
      .withGreyFormat bpp fun f => .greyDraw f (planImage · f.bpp b r), fun _ => rfl⟩
  | drawImagePart4G bpp b p r =>
    exact ⟨_, .withGreyFormat bpp fun c f => .greyDraw f (planPart c f.bpp f.ppb b p r),
      .withGreyFormat bpp fun f => .greyDraw f (planPart · f.bpp f.ppb b p r), fun _ => rfl⟩
  | refresh onlyPart => exact ⟨_, .refreshBody onlyPart, .refreshBody onlyPart, fun _ => rfl⟩
  | refreshRegion r => exact ⟨_, .regionRefresh (rectOf r), .regionRefresh fun _ => rectOf r, fun _ => rfl⟩
  | powerOff => exact ⟨_, .powerOff, .ok _, fun _ => rfl⟩
  | hibernate => exact ⟨_, .hibernateBody, .hibernateBody, fun _ => rfl⟩
  | setRefreshMode mode => exact ⟨_, .setMode mode, .setMode mode, fun _ => rfl⟩
  | reserved opcode => exact ⟨_, .nothing .noopReserved, .nothing .noopReserved, fun _ => rfl⟩
  | _ => cases h

/-! ### Bit 7 of the status -/

/-- One of the next `n` answers is `timed_out`. -/
theorem timesOut_iff {s : State} {n : Nat} : s.timesOut n = true ↔ ∃ k, k < n ∧ s.answerAt k = true := by
  simp [State.timesOut]

/-- No completion code reaches bit 7 (30_encoding.md R62). -/
theorem toByte_msb (code : StatusCode) : code.toByte.msb = false := by cases code <;> rfl

/-- Bit 7 of a completed operation's status says whether one of its busy-waits was `timed_out` (R112, R152). -/
theorem ran_complete_msb (s : State) (st : DcpState) (es : List Event) (code : StatusCode) :
    ((s.start.ran st es).complete code).status.msb = s.timesOut (waitCount es) := by
  have hstatus : (s.start.ran st es).status = noted (s.timesOut (waitCount es)) 0 := rfl
  rw [complete_status, BitVec.msb_or, toByte_msb, Bool.or_false, hstatus]
  cases s.timesOut (waitCount es) <;> rfl

end Sys2Proof.Machine
end

section
/-! The statements of the encoding family. -/

namespace Sys2Proof.Safety

open Sys2Proof.Machine

/-! ### Decoding -/

/-- Settles O1: a request and a lone command each decode to what they were encoded from. -/
theorem decodeOfEncode : Obligations.DecodeOfEncode := by
  unfold Obligations.DecodeOfEncode
  intro c i hwf
  cases he : encode c i with
  | request d => exact congrArg Except.ok (decodeRequest_encode hwf he)
  | command bytes => exact decodeCommand_encode hwf he

/-- Settles O2: row by row of R51, the decoder reads no bit outside the mask. -/
theorem unreadFieldsIgnored : Obligations.UnreadFieldsIgnored := by
  unfold Obligations.UnreadFieldsIgnored
  exact fun _ _ => decodeRequest_eq_of_agreeUnder

/-- Settles O3: each of the written words is evaluated. -/
theorem writtenWordsDecode : Obligations.WrittenWordsDecode := by
  unfold Obligations.WrittenWordsDecode
  exact ⟨by decide, by decide, by decide, by decide, by decide, by decide, by decide, rfl, rfl, rfl⟩

/-- Settles O4: each pseudo-operation and the line it spells are assembled. -/
theorem pseudoOperations : Obligations.PseudoOperations := by
  unfold Obligations.PseudoOperations
  exact ⟨by decide, by decide, by decide, by decide, by decide, by decide⟩

/-! ### Completion -/

/-- Settles O17: the body takes one answer for each Wait it emits, and no code touches bit 7. -/
theorem busyTimeoutBit : Obligations.BusyTimeoutBit := by
  unfold Obligations.BusyTimeoutBit
  intro i s hi hs
  obtain ⟨body, ⟨effect, hb⟩, he⟩ := exec_request hi
  refine ⟨_, he s, ?_⟩
  rw [hb.operate_eq hs]
  have hevents : ((s.start.ran (effect s.view).st (effect s.view).events).complete (effect s.view).code).events
      = (effect s.view).events := rfl
  rw [ran_complete_msb, hevents]
  exact ⟨timesOut_iff, rfl, rfl⟩

/-- Settles O19: a lawful operation completes with its body's code, and on a no-op code its body did nothing. -/
theorem statusHasOneCode : Obligations.StatusHasOneCode := by
  unfold Obligations.StatusHasOneCode
  intro i s hi hs
  obtain ⟨body, ⟨effect, hb⟩, hearly, he⟩ := exec_request_endsEarly hi
  have hcode : (body s.start).2 = (effect s.view).code := hb.code s.start hs
  refine ⟨_, _, he s, ⟨rfl, rfl, hb.operate_status hs⟩, fun hnoop => operate_didNothing ?_⟩
  rw [← hcode] at hnoop
  exact Prod.ext (hearly s.start hnoop) hcode

/-- Settles O20: the body of RESERVED is the early end, and R51 assigns none of these opcodes. -/
theorem reservedOpcodeDoesNothing : Obligations.ReservedOpcodeDoesNothing := by
  unfold Obligations.ReservedOpcodeDoesNothing
  refine ⟨fun _ s => ⟨_, rfl, operate_didNothing rfl⟩, fun s d rest hp hidle hok hop => ?_⟩
  have hfree : opcodeAssigned (field d.w0 0 8) = false := by
    simp only [opcodeAssigned, Bool.and_eq_false_iff, decide_eq_false_iff_not]
    rcases hop with hop | hop
    · exact .inl (by rw [hop]; decide)
    · exact .inr (by omega)
  have hdecode : decode s.cfg (.request d) = .ok (.reserved (field d.w0 0 8)) :=
    congrArg Except.ok (decodeRequest_reserved hfree)
  have hnothing : DidNothing _ (((s.served rest).accept (.request d)).operate fun s => (s, .noopReserved)) .noopReserved :=
    operate_didNothing rfl
  refine ⟨_, step_submit hp hidle hok hdecode, hnothing.st, hnothing.events, hnothing.status, hnothing.done,
    hnothing.idle, fun space => ?_⟩
  cases space <;> rfl

/-- Settles O23: two modes are written, and the other two end early. -/
theorem setRefreshModeResult : Obligations.SetRefreshModeResult := by
  unfold Obligations.SetRefreshModeResult
  intro s
  exact ⟨⟨_, rfl, operate_result rfl (.withSt s.start _)⟩, ⟨_, rfl, operate_result rfl (.withSt s.start _)⟩,
    ⟨_, rfl, operate_didNothing rfl⟩, ⟨_, rfl, operate_didNothing rfl⟩⟩

/-- Settles O40: each command drives its code and its parameter bytes. -/
theorem plainCommandsSendTheirBytes : Obligations.PlainCommandsSendTheirBytes := by
  unfold Obligations.PlainCommandsSendTheirBytes
  intro s ps
  exact ⟨rfl, rfl, rfl, rfl, rfl, rfl, rfl, rfl, rfl, rfl⟩

end Sys2Proof.Safety
end

section
/-! The partitioner family (40_partitioner.md). First clipping and rounding: the part of a rectangle that is on the panel
(R71, R72). -/

namespace Sys2Proof.Machine

open Sys2Proof.Safety

/-- The part of a rectangle that is on the panel; its extents are not positive where there is none (R71). -/
def Rect.onPanel (c : Cfg) (r : Rect) : Rect :=
  ⟨max r.x 0, max r.y 0, min (r.x + r.w) (panelWidth c) - max r.x 0, min (r.y + r.h) (panelHeight c) - max r.y 0⟩

theorem inRect_onPanel {c : Cfg} {r : Rect} {gx gy : Int} :
    inRect (r.onPanel c) gx gy ↔ inRect r gx gy ∧ inRect (wholePanel c).rect gx gy := by
  simp only [inRect, Rect.onPanel, wholePanel]
  omega

/-- A rectangle without a pixel is one with an extent that is not positive: otherwise its corner is a pixel of it. -/
theorem forall_not_inRect {r : Rect} : (∀ gx gy, ¬inRect r gx gy) ↔ r.w ≤ 0 ∨ r.h ≤ 0 := by
  constructor
  · intro h
    have hcorner := h r.x r.y
    simp only [inRect] at hcorner
    omega
  · rintro hempty gx gy ⟨_, _, _, _⟩
    omega

/-- No pixel of a rectangle is on the panel exactly when its part on the panel has no extent. -/
theorem no_pixel_on_panel {c : Cfg} {r : Rect} :
    (∀ gx gy, ¬(inRect r gx gy ∧ inRect (wholePanel c).rect gx gy)) ↔ (r.onPanel c).w ≤ 0 ∨ (r.onPanel c).h ≤ 0 := by
  simp only [← inRect_onPanel, forall_not_inRect]

/-- What ClipToPanel makes of an aligned rectangle, Partition takes (R71, R74). -/
theorem clipToPanel_trimmed {c : Cfg} {r : Rect} {clip : Clip} (hc : c.geometryOk = true) (hx8 : r.x % 8 = 0)
    (hw8 : r.w % 8 = 0) (h : clipToPanel c r = some clip) : trimmed c clip := by
  have hpanel := panel_bounds hc
  obtain ⟨hdx, -, hdy, -, hdx8⟩ := clipToPanel_trim h
  refine ⟨?_, hdx, hdx8 hx8, hdy⟩
  obtain ⟨hw, hh, rfl⟩ := clipToPanel_eq_some.1 h
  simp only [clippedAligned]
  omega

/-- AlignRegion answers the part on the panel, its left and right edge rounded outward (R72). -/
theorem alignRegion_eq_some {c : Cfg} {r a : Rect} (h : alignRegion c r = some a) :
    0 < (r.onPanel c).w ∧ a = ⟨floor8 (r.onPanel c).x, (r.onPanel c).y,
      ceil8 ((r.onPanel c).x + (r.onPanel c).w) - floor8 (r.onPanel c).x, (r.onPanel c).h⟩ := by
  obtain ⟨-, -, hw, -⟩ := alignRegion_ne_none.1 (Option.ne_none_iff_exists'.2 ⟨a, h⟩)
  refine ⟨hw, ?_⟩
  simp only [Rect.onPanel, add_sub_cancel]
  unfold alignRegion at h
  dsimp only at h
  split at h
  · cases h
  · split at h
    · cases h
    · exact (Option.some.inj h).symm

end Sys2Proof.Machine
end

section
/-! The quadrants of a partition (40_partitioner.md R73, R74, R77). -/

namespace Sys2Proof.Machine

open Sys2Proof.Safety

/-- A quadrant is a part of the panel and not empty (R73). -/
theorem Quadrant.ranges {c : Cfg} (hc : c.geometryOk = true) (q : Quadrant) :
    (0 ≤ (q.xRange c).1 ∧ (q.xRange c).1 < (q.xRange c).2 ∧ (q.xRange c).2 ≤ panelWidth c) ∧
      (0 ≤ (q.yRange c).1 ∧ (q.yRange c).1 < (q.yRange c).2 ∧ (q.yRange c).2 ≤ panelHeight c) := by
  have hpanel := panel_bounds hc
  cases q <;> simp only [Quadrant.xRange, Quadrant.yRange, Quadrant.target] <;> omega

/-- Two quadrants lie side by side or one above the other. -/
theorem Quadrant.apart {q q' : Quadrant} (c : Cfg) (h : q ≠ q') :
    ((q.xRange c).2 ≤ (q'.xRange c).1 ∨ (q'.xRange c).2 ≤ (q.xRange c).1) ∨
      ((q.yRange c).2 ≤ (q'.yRange c).1 ∨ (q'.yRange c).2 ≤ (q.yRange c).1) := by
  cases q <;> cases q' <;> simp [Quadrant.xRange, Quadrant.yRange, Quadrant.target] at h ⊢

/-- In the order of R73 a SLAVE quadrant comes before a MASTER one, and the upper one of a target before its lower one. -/
theorem Quadrant.all_ordered (c : Cfg) : Quadrant.all.Pairwise fun q q' =>
    (q.target = .slave ∧ q'.target = .master) ∨ (q.target = q'.target ∧ (q.yRange c).2 ≤ (q'.yRange c).1) := by
  simp [Quadrant.all, Quadrant.target, Quadrant.yRange]

/-- A rectangle inside one quadrant has no sub-rectangle in another (R77). -/
theorem subRectOf_eq_none {c : Cfg} {clip : Clip} {q q' : Quadrant} (hq : q' ≠ q)
    (hx : (q.xRange c).1 ≤ clip.rect.x ∧ clip.rect.x + clip.rect.w ≤ (q.xRange c).2)
    (hy : (q.yRange c).1 ≤ clip.rect.y ∧ clip.rect.y + clip.rect.h ≤ (q.yRange c).2) : subRectOf c clip q' = none := by
  have hapart := Quadrant.apart c hq
  rw [Option.eq_none_iff_forall_ne_some]
  intro sub hsub
  obtain ⟨hcols, hrows, -⟩ := subRectOf_eq_some.1 hsub
  omega

/-- The sub-rectangle that a clipped rectangle inside a quadrant makes: all of it, with the trim as source offset (R75, R76). -/
def Quadrant.subRect (c : Cfg) (q : Quadrant) (clip : Clip) : SubRect :=
  let r := clip.rect
  let origin := localOrigin c q.target r.x r.y (r.x + r.w) (r.y + r.h)
  ⟨q.target, q.scan, origin.1, origin.2, r.w, r.h, clip.dx, clip.dy⟩

/-- A quadrant as a part of the whole panel, whose trim is its corner. -/
def Quadrant.clip (c : Cfg) (q : Quadrant) : Clip :=
  ⟨⟨(q.xRange c).1, (q.yRange c).1, (q.xRange c).2 - (q.xRange c).1, (q.yRange c).2 - (q.yRange c).1⟩,
    (q.xRange c).1, (q.yRange c).1⟩


theorem subRectOf_inside {c : Cfg} {clip : Clip} {q : Quadrant} (hw : 0 < clip.rect.w) (hh : 0 < clip.rect.h)
    (hx : (q.xRange c).1 ≤ clip.rect.x ∧ clip.rect.x + clip.rect.w ≤ (q.xRange c).2)
    (hy : (q.yRange c).1 ≤ clip.rect.y ∧ clip.rect.y + clip.rect.h ≤ (q.yRange c).2) :
    subRectOf c clip q = some (q.subRect c clip) := by
  obtain ⟨hx1, hx2⟩ := hx
  obtain ⟨hy1, hy2⟩ := hy
  rw [subRectOf_eq_some, max_eq_left hx1, min_eq_left hx2, max_eq_left hy1, min_eq_left hy2]
  simp [Quadrant.subRect, hw, hh]

/-- So Partition answers it alone (R79). -/
theorem partition_inside {c : Cfg} {clip : Clip} {q : Quadrant} (hw : 0 < clip.rect.w) (hh : 0 < clip.rect.h)
    (hx : (q.xRange c).1 ≤ clip.rect.x ∧ clip.rect.x + clip.rect.w ≤ (q.xRange c).2)
    (hy : (q.yRange c).1 ≤ clip.rect.y ∧ clip.rect.y + clip.rect.h ≤ (q.yRange c).2) :
    partition c clip = [q.subRect c clip] := by
  have hown := subRectOf_inside hw hh hx hy
  have hothers : ∀ q', q' ≠ q → subRectOf c clip q' = none := fun _ hq => subRectOf_eq_none hq hx hy
  cases q <;> simp [partition, Quadrant.all, hown, hothers]

/-- The sub-rectangle of the whole panel in a quadrant is the quadrant (R79). -/
theorem subRectOf_wholePanel {c : Cfg} (hc : c.geometryOk = true) (q : Quadrant) :
    subRectOf c (wholePanel c) q = some (q.subRect c (q.clip c)) := by
  obtain ⟨⟨hx0, hx, hxw⟩, hy0, hy, hyh⟩ := Quadrant.ranges hc q
  rw [subRectOf_eq_some]
  simp only [wholePanel, zero_add, sub_zero, max_eq_right hx0, min_eq_right hxw, max_eq_right hy0, min_eq_right hyh,
    Quadrant.subRect, Quadrant.clip, add_sub_cancel]
  exact ⟨hx, hy, trivial⟩

/-- Of two sub-rectangles in quadrants one above the other, the source rows of the upper one come first (R76). -/
theorem subRectOf_sdy_lt {c : Cfg} {clip : Clip} {q q' : Quadrant} {sub sub' : SubRect}
    (h : subRectOf c clip q = some sub) (h' : subRectOf c clip q' = some sub')
    (hq : (q.yRange c).2 ≤ (q'.yRange c).1) : sub.sdy < sub'.sdy := by
  obtain ⟨-, hrows, rfl⟩ := subRectOf_eq_some.1 h
  obtain ⟨-, -, rfl⟩ := subRectOf_eq_some.1 h'
  simp only
  omega

/-- A sub-rectangle has the target of its quadrant. -/
theorem subRectOf_target {c : Cfg} {clip : Clip} {q : Quadrant} {sub : SubRect} (h : subRectOf c clip q = some sub) :
    sub.target = q.target := by
  obtain ⟨-, -, rfl⟩ := subRectOf_eq_some.1 h
  rfl

end Sys2Proof.Machine
end

section
/-! The region refresh (43_refresh_fsm.md R123), in the terms of its statement. -/

namespace Sys2Proof.Machine

/-- The upgrades of a region refresh: cases (a), (b) and (c) of R123. -/
theorem upgradesRegion_iff {st : DcpState} : st.upgradesRegion = true ↔
    st.initialRefreshPending = true ∨ st.refreshMode = .forcedFullRefresh ∨ st.refreshMode = .greyRefresh := by
  simp only [DcpState.upgradesRegion, Bool.or_eq_true, beq_iff_eq, or_assoc]

/-- A region refresh that is not upgraded runs the partial update, with its events (R123 e). -/
theorem regionRefreshEvents_part (c : Cfg) {st : DcpState} (h : st.upgradesRegion = false) :
    regionRefreshEvents c st
      = (if refreshInitializes st then initPlainEvents c st.hibernating else []) ++ updatePartEvents c := by
  unfold DcpState.upgradesRegion at h
  rw [regionRefreshEvents, h]
  rfl

/-- It leaves the state of the initialization it runs, if any (R123 e). -/
theorem afterRegionRefresh_part {st : DcpState} (h : st.upgradesRegion = false) :
    afterRegionRefresh st = if refreshInitializes st then afterInitPlain st else st := by
  unfold DcpState.upgradesRegion at h
  rw [afterRegionRefresh, h]
  rfl

/-- Operations whose bodies agree on the started state are equal. -/
theorem operate_congr {s : State} {body body' : State → State × StatusCode} (h : body s.start = body' s.start) :
    s.operate body = s.operate body' := by
  unfold State.operate
  rw [h]

end Sys2Proof.Machine
end

section
/-! The statements of the partitioner family. -/

namespace Sys2Proof.Safety

open Sys2Proof.Machine

/-- Settles O29: an upgraded body is that of REFRESH, an empty region ends early, and any other runs the partial update. -/
theorem refreshRegionResult : Obligations.RefreshRegionResult := by
  unfold Obligations.RefreshRegionResult
  intro s r hs
  refine ⟨fun hup => ?_, fun hpending hforced hgrey => ?_⟩
  · have hbody : s.start.regionRefresh (rectOf r) = s.start.refreshBody false :=
      regionRefresh_upgraded s.start (rectOf r) (upgradesRegion_iff.2 hup)
    exact congrArg Host.Outcome.next (operate_congr hbody)
  · have hup : s.start.st.upgradesRegion = false := by
      rw [Bool.eq_false_iff, Ne, upgradesRegion_iff]
      simp [hpending, hforced, hgrey]
    refine ⟨fun hempty => ⟨_, rfl, operate_didNothing (regionRefresh_empty s.start (rectOf r) hup hempty)⟩,
      fun hregion => ⟨_, rfl, ?_⟩⟩
    obtain ⟨hruns, hcode⟩ := regionRefresh_runs s.start hs (rectOf r) hregion
    rw [afterRegionRefresh_part hup, regionRefreshEvents_part _ hup] at hruns
    exact operate_result (Prod.ext rfl hcode) hruns

/-- Settles O43: the clipped rectangle is the part of the rectangle that is on the panel. -/
theorem clipToPanelKeepsPanelPixels : Obligations.ClipToPanelKeepsPanelPixels := by
  unfold Obligations.ClipToPanelKeepsPanelPixels
  intro c r hc hx8 hw8 _ _
  refine ⟨clipToPanel_eq_none.trans no_pixel_on_panel.symm, fun clip hclip => ?_⟩
  have htrimmed := clipToPanel_trimmed hc hx8 hw8 hclip
  obtain ⟨-, -, rfl⟩ := clipToPanel_eq_some.1 hclip
  exact ⟨fun _ _ => inRect_onPanel, rfl, rfl, htrimmed⟩

/-- Settles O44: it is empty where no part is on the panel, and otherwise the edges of that part are rounded outward, which
stays on the panel because its width is a multiple of 8. -/
theorem alignRegionClipsThenRounds : Obligations.AlignRegionClipsThenRounds := by
  unfold Obligations.AlignRegionClipsThenRounds
  intro c r hc
  refine ⟨?_, fun a ha => ?_⟩
  · rw [no_pixel_on_panel, ← not_iff_not]
    refine alignRegion_ne_none.trans ?_
    simp only [Rect.onPanel]
    omega
  · have hpanel := panel_bounds hc
    obtain ⟨hw, rfl⟩ := alignRegion_eq_some ha
    simp only [Rect.onPanel, floor8, ceil8, true_and] at hw ⊢
    omega

/-- Settles O45: a sub-rectangle is a window in the RAM of its controller, and its source offset is the trim plus its distance
from the clipped rectangle's corner. -/
theorem subRectInvariants : Obligations.SubRectInvariants := by
  unfold Obligations.SubRectInvariants
  rintro c clip sub hc ⟨hclip, hdx, hdx8, hdy⟩ hsub
  obtain ⟨⟨hlx, hlx8⟩, ⟨hw, hw8⟩, hright, hly, hh, hbottom⟩ := partition_inRam hc hclip hsub
  obtain ⟨hleft8, -⟩ := partition_aligned hc hclip hsub
  obtain ⟨-, -, ⟨hcols, -⟩, ⟨hrows, -⟩, -⟩ := partition_lies hsub
  obtain ⟨-, -, -, -, -, -, hx8, -⟩ := hclip
  have hsdx8 : sub.sdx % 8 = 0 := by
    unfold SubRect.left at hleft8
    omega
  have hsdx : 0 ≤ sub.sdx := by
    unfold SubRect.left at hcols
    omega
  have hsdy : 0 ≤ sub.sdy := by
    unfold SubRect.top at hrows
    omega
  exact ⟨hw, hh, hlx8, hw8, hsdx8, hlx, hright, hly, hbottom, hsdx, hsdy⟩

/-- Settles O47: both sides measure from the sub-rectangle's left and top edge on the panel, which R75 recovers from the
local origin. -/
theorem sourceOffsetFollowsPixel : Obligations.SourceOffsetFollowsPixel := by
  unfold Obligations.SourceOffsetFollowsPixel
  intro c clip sub gx gy _ _ hsub _
  have hside := (partition_lies hsub).side
  constructor
  all_goals
    intro ht
    rw [ht] at hside
    obtain ⟨-, hlx, hly, -⟩ := hside
    simp only [SubRect.left, SubRect.top] at hlx hly
    omega

/-- Settles O48: only the rectangle's own quadrant keeps some of it, and each quadrant of the panel keeps itself. -/
theorem oneQuadrantAndWholePanel : Obligations.OneQuadrantAndWholePanel := by
  unfold Obligations.OneQuadrantAndWholePanel
  intro c hc
  constructor
  · rintro clip q ⟨-, -, -, -, hw, hh, -⟩ hx hxw hy hyh
    rw [partition_inside hw hh ⟨hx, hxw⟩ ⟨hy, hyh⟩]
    cases q <;> rfl
  · have hpanel := panel_bounds hc
    simp only [partition, Quadrant.all, List.filterMap_cons, List.filterMap_nil, subRectOf_wholePanel hc]
    simp only [Quadrant.subRect, Quadrant.clip, Quadrant.target, Quadrant.scan, Quadrant.xRange, Quadrant.yRange,
      localOrigin, controllerWidth,
      List.cons.injEq, SubRect.mk.injEq, true_and, and_true]
    omega

/-- Settles O60: the quadrants are visited in that order, and a sub-rectangle has its quadrant's target and scan mode. -/
theorem partitionOrder : Obligations.PartitionOrder := by
  unfold Obligations.PartitionOrder
  intro c clip
  constructor
  · unfold partition
    rw [List.pairwise_filterMap]
    refine (Quadrant.all_ordered c).imp ?_
    intro q q' horder sub hsub sub' hsub'
    rw [subRectOf_target hsub, subRectOf_target hsub']
    exact horder.imp_right fun ⟨htarget, hrows⟩ => ⟨htarget, subRectOf_sdy_lt hsub hsub' hrows⟩
  · intro sub hsub
    have hside := (partition_lies hsub).side
    constructor
    all_goals
      intro ht
      rw [ht] at hside
      exact hside.1

end Sys2Proof.Safety
end

section
/-! The RAM window family (41_ram_window.md). What SetWindow sends (R85), and how many events the blocks of a fill and the
partial update are (R185). -/

namespace Sys2Proof.Machine

open Sys2Proof.Safety

/-! ### SetWindow -/

/-- SetWindow event by event, each row as the two halves of its 16 bits (R85 to R90). -/
theorem setWindow_eq (c : Cfg) (t : Target) (m : ScanMode) (lx ly w h : Int) :
    setWindow c t m lx ly w h =
      [.cmd (c.cmdEntryMode ||| t.bit), .data (scanByte c m),
        .cmd (0x44 ||| t.bit), .data (lo8 (columnEnds m lx w).1), .data (lo8 (columnEnds m lx w).2),
        .cmd (0x45 ||| t.bit),
          .data ((BitVec.ofInt 16 (rowEnds m ly h).1).extractLsb' 0 8),
          .data ((BitVec.ofInt 16 (rowEnds m ly h).1).extractLsb' 8 8),
          .data ((BitVec.ofInt 16 (rowEnds m ly h).2).extractLsb' 0 8),
          .data ((BitVec.ofInt 16 (rowEnds m ly h).2).extractLsb' 8 8),
        .cmd (0x4E ||| t.bit), .data (lo8 (columnEnds m lx w).1),
        .cmd (0x4F ||| t.bit),
          .data ((BitVec.ofInt 16 (rowEnds m ly h).1).extractLsb' 0 8),
          .data ((BitVec.ofInt 16 (rowEnds m ly h).1).extractLsb' 8 8),
        .delay c.windowSettleMs] := by
  rw [← lo8_eq, ← lo8_eq, ← hi8_eq, ← hi8_eq]
  rfl

@[simp] theorem setWindow_length (c : Cfg) (t : Target) (m : ScanMode) (lx ly w h : Int) :
    (setWindow c t m lx ly w h).length = 16 := by
  rw [setWindow_eq]
  rfl

/-- A number in range keeps its value as a word. -/
theorem toNat_ofInt_of_lt {n : Nat} {v : Int} (h0 : 0 ≤ v) (hlt : v < 2 ^ n) : ((BitVec.ofInt n v).toNat : Int) = v := by
  rw [BitVec.toNat_ofInt]
  push_cast
  rw [Int.emod_eq_of_lt h0 hlt, Int.toNat_of_nonneg h0]

/-- The X scan of an increasing mode starts at the left edge. -/
theorem columnEnds_inc {m : ScanMode} (hm : m = .xIncYInc ∨ m = .xIncYDec) (lx w : Int) :
    columnEnds m lx w = (lx / 8, (lx + w) / 8 - 1) := by
  rcases hm with rfl | rfl <;> rfl

/-- That of a decreasing mode starts at the right edge. -/
theorem columnEnds_dec {m : ScanMode} (hm : m = .xDecYInc ∨ m = .xDecYDec) (lx w : Int) :
    columnEnds m lx w = ((lx + w) / 8 - 1, lx / 8) := by
  rcases hm with rfl | rfl <;> rfl

/-- The Y scan of an increasing mode starts at the top edge. -/
theorem rowEnds_inc {m : ScanMode} (hm : m = .xIncYInc ∨ m = .xDecYInc) (ly h : Int) :
    rowEnds m ly h = (ly, ly + h - 1) := by
  rcases hm with rfl | rfl <;> rfl

/-- That of a decreasing mode starts at the bottom edge. -/
theorem rowEnds_dec {m : ScanMode} (hm : m = .xIncYDec ∨ m = .xDecYDec) (ly h : Int) :
    rowEnds m ly h = (ly + h - 1, ly) := by
  rcases hm with rfl | rfl <;> rfl

/-! ### Plane blocks -/

/-- A plane block is its window, the plane command and the bracketed bytes (44_write_ops.md R131). -/
theorem planeBlock_length (c : Cfg) (plane : Plane) (sub : SubRect) (bytes : List Byte) :
    (planeBlock c plane sub bytes).length = 19 + bytes.length := by
  simp only [planeBlock_eq, List.length_append, setWindow_length, List.length_map, List.length_cons, List.length_nil]
  omega

/-- The bulk bytes of a plane block are the bytes of its stream. -/
theorem planeBlock_count_bulk (c : Cfg) (plane : Plane) (sub : SubRect) (bytes : List Byte) (value : Byte) :
    (planeBlock c plane sub bytes).count (.bulk value) = bytes.count value := by
  have hinj : Function.Injective Event.bulk := fun _ _ heq => Event.bulk.inj heq
  have hwindow : (setWindow c sub.target sub.scan sub.lx sub.ly sub.w sub.h).count (.bulk value) = 0 := by
    rw [setWindow_eq, List.count_eq_zero]
    simp
  simp [planeBlock_eq, hwindow, List.count_map_of_injective _ _ hinj]

/-! ### A fill of one plane -/

/-- One sub-rectangle for each quadrant of the panel. -/
theorem partition_wholePanel_length {c : Cfg} (hc : c.geometryOk = true) : (partition c (wholePanel c)).length = 4 := by
  rw [(oneQuadrantAndWholePanel c hc).2]
  rfl

/-- Each is half the panel wide and half the panel high (40_partitioner.md R79), so its stream is a quarter of the plane. -/
theorem fillBytes_wholePanel {c : Cfg} (hc : c.geometryOk = true) (value : Byte) {sub : SubRect}
    (hsub : sub ∈ partition c (wholePanel c)) : fillBytes sub value = List.replicate (c.width / 16 * (c.height / 2)) value := by
  have hsize : sub.w = controllerWidth c ∧ sub.h = panelHeight c / 2 := by
    rw [(oneQuadrantAndWholePanel c hc).2] at hsub
    simp only [List.mem_cons, List.not_mem_nil, or_false] at hsub
    rcases hsub with rfl | rfl | rfl | rfl <;> exact ⟨rfl, rfl⟩
  obtain ⟨hw, hh⟩ := hsize
  have hbytes : sub.w / 8 * sub.h = ((c.width / 16 * (c.height / 2) : Nat) : Int) := by
    rw [hw, hh, controllerWidth, panelWidth, panelHeight, Int.ediv_ediv_of_nonneg (by decide)]
    push_cast
    rfl
  rw [fillBytes, hbytes, Int.toNat_natCast]

/-- Four quarters are the plane's bytes (00_scope.md R5). -/
theorem four_mul_quarter {c : Cfg} (hc : c.geometryOk = true) :
    4 * (c.width / 16 * (c.height / 2)) = c.width * c.height / 8 := by
  obtain ⟨hw16, -, -, hh2, -⟩ := panel_bounds hc
  obtain ⟨a, ha⟩ : 16 ∣ c.width := by unfold panelWidth at hw16; omega
  obtain ⟨b, hb⟩ : 2 ∣ c.height := by unfold panelHeight at hh2; omega
  rw [ha, hb, Nat.mul_div_cancel_left a (by decide), Nat.mul_div_cancel_left b (by decide),
    show 16 * a * (2 * b) = 8 * (4 * (a * b)) by ring, Nat.mul_div_cancel_left _ (by decide)]

/-- A count that each block of a fill has `n` of, the fill of a plane has `4 * n` of. -/
theorem sum_blocks_wholePanel {c : Cfg} (hc : c.geometryOk = true) {f : SubRect → Nat} {n : Nat}
    (hf : ∀ sub ∈ partition c (wholePanel c), f sub = n) : ((partition c (wholePanel c)).map f).sum = 4 * n := by
  rw [List.sum_eq_card_nsmul _ n (List.forall_mem_map.2 hf), List.length_map, partition_wholePanel_length hc, smul_eq_mul]

/-- The four blocks of a plane (44_write_ops.md R132, R185). -/
theorem fillEvents_length {c : Cfg} (hc : c.geometryOk = true) (plane : Plane) (value : Byte) :
    (fillEvents c [plane] value).length = 76 + c.width * c.height / 8 := by
  have hblock : ∀ sub ∈ partition c (wholePanel c),
      (planeBlock c plane sub (fillBytes sub value)).length = 19 + c.width / 16 * (c.height / 2) := fun sub hsub => by
    rw [planeBlock_length, fillBytes_wholePanel hc value hsub, List.length_replicate]
  rw [fillEvents, List.flatMap_singleton, List.length_flatMap, sum_blocks_wholePanel hc hblock, ← four_mul_quarter hc]
  ring

/-- Their bulk bytes are all the fill's value (42_pixel_packer.md R99). -/
theorem fillEvents_count_bulk {c : Cfg} (hc : c.geometryOk = true) (plane : Plane) (value : Byte) :
    (fillEvents c [plane] value).count (.bulk value) = c.width * c.height / 8 := by
  have hblock : ∀ sub ∈ partition c (wholePanel c),
      (List.count (.bulk value) ∘ fun sub => planeBlock c plane sub (fillBytes sub value)) sub
        = c.width / 16 * (c.height / 2) := fun sub hsub => by
    rw [Function.comp_apply, planeBlock_count_bulk, fillBytes_wholePanel hc value hsub, List.count_replicate_self]
  rw [fillEvents, List.flatMap_singleton, List.count_flatMap, sum_blocks_wholePanel hc hblock, four_mul_quarter hc]

/-! ### The partial update -/

/-- What UpdatePart emits, with power or without (43_refresh_fsm.md R120). -/
theorem updatePart_events (s : State) : s.updatePart.events = s.events ++ updatePartEvents s.cfg := by
  have hwait := (waitBusy_runs (s.emit (partialUpdateEvents s.cfg)) s.cfg.partialMs).hevents
  rw [State.updatePart, setPower_events, hwait, emit_events]
  simp [partialUpdateEvents, updatePartEvents, commandEvents]

theorem updatePartEvents_length (c : Cfg) :
    (updatePartEvents c).length = 6 + c.borderPartData.length + c.updctl1PartData.length := by
  simp only [updatePartEvents, List.length_append, List.length_map, List.length_cons, List.length_nil]
  omega

end Sys2Proof.Machine
end

section
/-! The statements of the RAM window family. -/

namespace Sys2Proof.Safety

open Sys2Proof.Machine

/-- Settles O34: a fill is four blocks of a quarter of the plane each, and the partial update is its four commands and its
wait. -/
theorem eventCounts : Obligations.EventCounts := by
  unfold Obligations.EventCounts
  refine ⟨setWindow_length, fun c plane value hc => ⟨fillEvents_length hc plane value, fillEvents_count_bulk hc plane value⟩,
    fun s => ⟨?_, ?_⟩⟩
  · rw [updatePart_events, updatePartEvents, ← List.append_assoc, ← List.append_assoc]
  · rw [updatePart_events, List.length_append, updatePartEvents_length]

/-- Settles O49: the window's columns fit a byte and its rows 16 bits (30_encoding.md R60), so SetWindow sends them whole. -/
theorem setWindowSendsItsBounds : Obligations.SetWindowSendsItsBounds := by
  unfold Obligations.SetWindowSendsItsBounds
  intro c t m lx ly w h hc hlx hlx8 hw hw8 hright hly hh hbottom
  have hpanel := panel_bounds hc
  unfold controllerWidth at hright
  unfold controllerHeight at hbottom
  have hleftByte : ((lo8 (lx / 8)).toNat : Int) = lx / 8 := toNat_ofInt_of_lt (by omega) (by omega)
  have hrightByte : ((lo8 ((lx + w) / 8 - 1)).toNat : Int) = (lx + w) / 8 - 1 := toNat_ofInt_of_lt (by omega) (by omega)
  have htopRow : ((BitVec.ofInt 16 ly).toNat : Int) = ly := toNat_ofInt_of_lt hly (by omega)
  have hbottomRow : ((BitVec.ofInt 16 (ly + h - 1)).toNat : Int) = ly + h - 1 := toNat_ofInt_of_lt (by omega) (by omega)
  refine ⟨_, _, _, _, setWindow_eq c t m lx ly w h, fun hm => ?_, fun hm => ?_, fun hm => ?_, fun hm => ?_⟩
  · rw [columnEnds_inc hm]
    exact ⟨hleftByte, hrightByte⟩
  · rw [columnEnds_dec hm]
    exact ⟨hrightByte, hleftByte⟩
  · rw [rowEnds_inc hm]
    exact ⟨htopRow, hbottomRow⟩
  · rw [rowEnds_dec hm]
    exact ⟨hbottomRow, htopRow⟩

/-- Settles O55: the stream is a list of rows of packed bytes. -/
theorem greyStreamSendsPackedBytes : Obligations.GreyStreamSendsPackedBytes := by
  unfold Obligations.GreyStreamSendsPackedBytes
  intro s f plane src sub hw hw8 hh
  refine ⟨subBytes_length_eq hw hh _, fun i j hi hj => ?_⟩
  exact subBytes_getElem? sub _ i j (by omega) (by omega)

end Sys2Proof.Safety
end

section
/-! The packer family (42_pixel_packer.md). First the grayscale formats (R100, R101, 60_exceptions.md R154): which bpp fields
select one, and when an operation refuses the others. -/

namespace Sys2Proof.Machine

open Sys2Proof.Safety

/-! ### Formats -/

/-- Only 2, 4 and 8 bits per pixel have a format (R100). -/
theorem greyFormat_eq_none {c : Cfg} {bpp : Byte} : greyFormat c bpp = none ↔ bpp ≠ 2 ∧ bpp ≠ 4 ∧ bpp ≠ 8 := by
  simp only [ne_eq, ← BitVec.toNat_inj]
  unfold greyFormat
  split <;> simp_all

/-- A format has the field's bits per pixel and fills a byte with its pixels (R100). -/
theorem greyFormat_fields {c : Cfg} {bpp : Byte} {f : GreyFormat} (h : greyFormat c bpp = some f) :
    f.bpp = bpp.toNat ∧ f.ppb = 8 / bpp.toNat := by
  unfold greyFormat at h
  split at h <;> cases h <;> simp_all

/-- The two bits a 2bpp mask keeps have four values (R101). -/
theorem two_bits_cases (v : Byte) : v &&& 0xC0 = 0xC0 ∨ v &&& 0xC0 = 0x80 ∨ v &&& 0xC0 = 0x40 ∨ v &&& 0xC0 = 0x00 := by
  decide +revert

/-! ### Refusals -/

theorem toByte_injective : Function.Injective StatusCode.toByte := fun code other h => by
  cases code <;> cases other <;> simp_all [StatusCode.toByte]

/-- Bits 3:0 of a status tell its code from every other (30_encoding.md R62). -/
theorem status_low_ne {status : Byte} {code other : StatusCode} (h : status &&& 0x7F = code.toByte) (hne : code ≠ other) :
    status &&& 0x0F ≠ other.toByte := by
  have hlow : status &&& 0x0F = code.toByte := by
    rw [show (0x0F : Byte) = 0x7F &&& 0x0F from rfl, ← BitVec.and_assoc, h]
    cases code <;> rfl
  rw [hlow]
  exact toByte_injective.ne hne

/-- An operation refuses with a code exactly where its body ends at once with it and answers another code elsewhere. -/
theorem refusesExactly_of_body {s : State} {i : Instr} {body : State → State × StatusCode} {code : StatusCode}
    {refuses : Prop} (he : exec i s = .next (s.operate body)) (hbody : Lawful body) (hs : s.st.powerIsOn = false)
    (hrefused : refuses → body s.start = (s.start, code)) (haccepted : ¬refuses → (body s.start).2 ≠ code) :
    RefusesExactly s i code refuses := by
  obtain ⟨effect, hb⟩ := hbody
  have hcode : (body s.start).2 = (effect s.view).code := hb.code s.start hs
  refine ⟨_, he, fun h => operate_didNothing (hrefused h), fun h => status_low_ne (hb.operate_status hs) ?_⟩
  rw [← hcode]
  exact haccepted h

/-- A geometry is refused for its geometry only (60_exceptions.md R151). -/
def GeometryRefused (plan : Except StatusCode WritePlan) : Prop := ∀ code, plan = .error code → code = .noopGeometry

theorem greyWrite_code_ne_noopBpp {plan : Except StatusCode WritePlan} (h : GeometryRefused plan) (s : State)
    (f : GreyFormat) : (s.greyWrite f plan).2 ≠ .noopBpp := by
  cases plan with
  | error code => simp [State.greyWrite, h code rfl]
  | ok p => simp [State.greyWrite]

theorem greyDraw_code_ne_noopBpp {plan : Except StatusCode WritePlan} (h : GeometryRefused plan) (s : State)
    (f : GreyFormat) : (s.greyDraw f plan).2 ≠ .noopBpp := by
  cases plan with
  | error code => simp [State.greyDraw, h code rfl]
  | ok p => simp [State.greyDraw]

/-- The bpp check of a grayscale operation whose body never answers NOOP_BPP itself (R154, R157). -/
theorem withGreyFormat_refusesExactly {s : State} {i : Instr} {bpp : Byte}
    {body : Cfg → GreyFormat → State → State × StatusCode} (hs : s.st.powerIsOn = false)
    (he : exec i s = .next (s.operate fun s => s.withGreyFormat bpp fun f => body s.cfg f s))
    (hbody : ∀ c f, Lawful (body c f)) (hcode : ∀ c f s, (body c f s).2 ≠ .noopBpp) :
    RefusesExactly s i .noopBpp (bpp ≠ 2 ∧ bpp ≠ 4 ∧ bpp ≠ 8) := by
  rw [← greyFormat_eq_none (c := s.start.cfg)]
  refine refusesExactly_of_body he (.withGreyFormat bpp hbody) hs (fun hnone => ?_) fun hsome => ?_
  · simp only [State.withGreyFormat, hnone]
  · obtain ⟨f, hf⟩ := Option.ne_none_iff_exists'.1 hsome
    simp only [State.withGreyFormat, hf]
    exact hcode s.start.cfg f s.start

end Sys2Proof.Machine
end

section
/-! The byte streams of a sub-rectangle and its mirror (42_pixel_packer.md R96 to R107). -/

namespace Sys2Proof.Machine

open Sys2Proof.Safety

/-- Two streams whose bytes agree in every row and column of the sub-rectangle are equal. -/
theorem subBytes_congr {sub : SubRect} {byte byte' : Nat → Nat → Byte}
    (h : ∀ i j : Nat, (i : Int) < sub.h → (j : Int) < sub.w / 8 → byte i j = byte' i j) :
    subBytes sub byte = subBytes sub byte' := by
  refine List.flatMap_congr fun i hi => List.map_congr_left fun j hj => h i j ?_ ?_
  · have := List.mem_range.1 hi
    omega
  · have := List.mem_range.1 hj
    omega

theorem sourceRow_of_mirrorY {src : SourceView} (h : src.mirrorY = true) (sub : SubRect) (i : Nat) :
    sourceRow src sub i = src.hsrc - 1 - (src.yoff + sub.sdy + i) := by
  simp [sourceRow, h]

theorem sourceRow_of_not_mirrorY {src : SourceView} (h : src.mirrorY = false) (sub : SubRect) (i : Nat) :
    sourceRow src sub i = src.yoff + sub.sdy + i := by
  simp [sourceRow, h]

/-- `src` is read mirrored, `src'` is read as it stands, and the rows of `src'` are those of `src` in reverse order: the
hypotheses of R107. -/
structure FlippedCopy (s : State) (src src' : SourceView) : Prop where
  mirrored : src.mirrorY = true
  plain : src'.mirrorY = false
  stride : src'.stride = src.stride
  xoff : src'.xoff = src.xoff
  yoff : src'.yoff = src.yoff
  invert : src'.invert = src.invert
  bytes : ∀ row col : Int, 0 ≤ row → row < src.hsrc → 0 ≤ col → col < src.stride →
    s.sourceByte src' (row * src.stride + col) = s.sourceByte src ((src.hsrc - 1 - row) * src.stride + col)

/-- The sub-rectangle's rows are rows of the bitmap (R96). -/
structure RowsInside (src : SourceView) (sub : SubRect) : Prop where
  top : 0 ≤ src.yoff + sub.sdy
  bottom : src.yoff + sub.sdy + sub.h ≤ src.hsrc

namespace FlippedCopy

variable {s : State} {src src' : SourceView} {sub : SubRect}

/-- A byte column of row `i` reads the same byte in both (R107). -/
theorem workingByte_eq (h : FlippedCopy s src src') (hrows : RowsInside src sub) {i : Nat} (hi : (i : Int) < sub.h)
    {col : Int} (hcol : 0 ≤ col) (hcol' : col < src.stride) :
    s.workingByte src (sourceRow src sub i * src.stride + col)
      = s.workingByte src' (sourceRow src' sub i * src'.stride + col) := by
  obtain ⟨htop, hbottom⟩ := hrows
  have hbyte := h.bytes (src.yoff + sub.sdy + i) col (by omega) (by omega) hcol hcol'
  rw [sourceRow_of_mirrorY h.mirrored, sourceRow_of_not_mirrorY h.plain, h.yoff, h.stride, State.workingByte,
    State.workingByte, h.invert, hbyte]

/-- The mirror law of the 1bpp stream (R98, R107). -/
theorem monoBytes_eq (h : FlippedCopy s src src') (hrows : RowsInside src sub) (hleft : 0 ≤ src.xoff + sub.sdx)
    (hright : (src.xoff + sub.sdx) / 8 + sub.w / 8 ≤ src.stride) : s.monoBytes sub src = s.monoBytes sub src' := by
  refine subBytes_congr fun i j hi hj => ?_
  simp only [monoIndex, Int.add_assoc, h.xoff]
  exact h.workingByte_eq hrows hi (by omega) (by omega)

/-- The mirror law of the grayscale stream (R103, R107). -/
theorem greyBytes_eq (h : FlippedCopy s src src') (hrows : RowsInside src sub) (f : GreyFormat) (plane : Plane)
    (hleft : 0 ≤ src.xoff + sub.sdx)
    (hright : (src.xoff + sub.sdx) / f.ppb + sub.w / 8 * f.bpp ≤ src.stride) :
    s.greyBytes f plane sub src = s.greyBytes f plane sub src' := by
  have hstart : 0 ≤ (src.xoff + sub.sdx) / (f.ppb : Int) := Int.ediv_nonneg hleft (by omega)
  refine subBytes_congr fun i j hi hj => ?_
  unfold State.packGrey
  refine congrArg (fun bytes => ~~~(packBytes s.cfg.grayPlaneTable f plane bytes))
    (List.map_congr_left fun k hk => ?_)
  have hlast : ((j : Int) + 1) * f.bpp ≤ sub.w / 8 * f.bpp := Int.mul_le_mul_of_nonneg_right hj (by omega)
  have hk' : k < f.bpp := List.mem_range.1 hk
  have hj0 : (0 : Int) ≤ j * f.bpp := by positivity
  rw [Int.add_mul] at hlast
  simp only [greyIndex, Int.add_assoc, h.xoff]
  exact h.workingByte_eq hrows hi (by omega) (by omega)

end FlippedCopy

end Sys2Proof.Machine
end

section
/-! The planes of a write, a sub-rectangle at a time (44_write_ops.md R131, R137 to R142), in the terms of the statements. -/

namespace Sys2Proof.Machine

open Sys2Proof.Safety

/-- One plane of a write or a fill is one pass of the loop of R131. -/
theorem flatMap_planeBlock (c : Cfg) (clip : Clip) (plane : Plane) (bytes : SubRect → List Byte) :
    ((partition c clip).flatMap fun sub => planeBlock c plane sub (bytes sub)) = planeSent c clip plane bytes := by
  simp only [planeBlock_eq, planeSent]

/-- WritePlanes is that loop for each plane. -/
theorem writeEvents_eq (s : State) (planes : List Plane) (format : Option GreyFormat) (clip : Clip) (src : SourceView) :
    s.writeEvents planes format clip src
      = planes.flatMap fun plane => planeSent s.cfg clip plane (s.planeBytes format src plane) := by
  simp only [State.writeEvents, flatMap_planeBlock]

/-- The two planes of a write, the previous one first. -/
theorem writeEvents_both (s : State) (format : Option GreyFormat) (clip : Clip) (src : SourceView) :
    s.writeEvents [.previous, .current] format clip src
      = planeSent s.cfg clip .previous (s.planeBytes format src .previous)
        ++ planeSent s.cfg clip .current (s.planeBytes format src .current) := by
  rw [writeEvents_eq, List.flatMap_cons, List.flatMap_singleton]

/-- FillPlanes is the same loop over the whole panel (R132). -/
theorem fillEvents_eq (c : Cfg) (planes : List Plane) (value : Byte) :
    fillEvents c planes value
      = planes.flatMap fun plane => planeSent c (wholePanel c) plane fun sub => fillBytes sub value := by
  simp only [fillEvents, flatMap_planeBlock]

/-- The start of an operation leaves what its planes are written with. -/
theorem start_writeEvents (s : State) : s.start.writeEvents = s.writeEvents := by
  funext planes format clip src
  exact writeEvents_congr rfl (fun space => by cases space <;> rfl) rfl planes format clip src

/-- A 1bpp write whose geometry succeeded (R137 to R140). -/
theorem monoWrite_result {s : State} (hs : s.st.powerIsOn = false) (planes : List Plane)
    {plan : Cfg → Except StatusCode WritePlan} {p : WritePlan} (hp : plan s.cfg = .ok p) :
    Result s (s.operate fun s => s.monoWrite planes (plan s.cfg)) .ok (afterEnsurePlain (afterRedirect s.st))
      (redirectEvents s.cfg s.st s.cfg.initialFill ++ ensurePlainEvents s.cfg (afterRedirect s.st)
        ++ s.writeEvents planes none p.clip p.src) := by
  have hruns := monoBody_runs s.start hs planes p
  rw [start_writeEvents] at hruns
  refine operate_result ?_ hruns
  simp only [start_cfg, hp, State.monoWrite]

/-- A grayscale write whose format and geometry succeeded (R141, R142). -/
theorem greyWrite_result {s : State} (hs : s.st.powerIsOn = false) {bpp : Byte} {f : GreyFormat}
    (hf : greyFormat s.cfg bpp = some f) {plan : Cfg → GreyFormat → Except StatusCode WritePlan} {p : WritePlan}
    (hp : plan s.cfg f = .ok p) :
    Result s (s.operate fun s => s.withGreyFormat bpp fun f => s.greyWrite f (plan s.cfg f)) .ok
      (afterEnsureGrey (afterRedirect s.st))
      (redirectEvents s.cfg s.st s.cfg.initialFill ++ ensureGreyEvents s.cfg (afterRedirect s.st)
        ++ s.writeEvents [.previous, .current] (some f) p.clip p.src) := by
  have hruns := greyBody_runs s.start hs f p
  rw [start_writeEvents] at hruns
  refine operate_result ?_ hruns
  simp only [State.withGreyFormat, start_cfg, hf, hp, State.greyWrite]

end Sys2Proof.Machine
end

section
/-! The statements of the packer family. -/

namespace Sys2Proof.Safety

open Sys2Proof.Machine

/-! ### The grayscale formats -/

/-- Settles O22: the bpp check is the first of each of the four bodies, and what follows it refuses only a geometry. -/
theorem unsupportedBppIsNoop : Obligations.UnsupportedBppIsNoop := by
  unfold Obligations.UnsupportedBppIsNoop
  intro s bpp b p r hs i hi
  have himage : ∀ c (f : GreyFormat), GeometryRefused (planImage c f.bpp b r) := fun _ _ _ => planImage_error
  have hpart : ∀ c (f : GreyFormat), GeometryRefused (planPart c f.bpp f.ppb b p r) := fun _ _ _ => planPart_error
  simp only [List.mem_cons, List.not_mem_nil, or_false] at hi
  rcases hi with rfl | rfl | rfl | rfl
  · exact withGreyFormat_refusesExactly hs rfl (fun c f => .greyWrite f (planImage c f.bpp b r))
      fun c f s => greyWrite_code_ne_noopBpp (himage c f) s f
  · exact withGreyFormat_refusesExactly hs rfl (fun c f => .greyWrite f (planPart c f.bpp f.ppb b p r))
      fun c f s => greyWrite_code_ne_noopBpp (hpart c f) s f
  · exact withGreyFormat_refusesExactly hs rfl (fun c f => .greyDraw f (planImage c f.bpp b r))
      fun c f s => greyDraw_code_ne_noopBpp (himage c f) s f
  · exact withGreyFormat_refusesExactly hs rfl (fun c f => .greyDraw f (planPart c f.bpp f.ppb b p r))
      fun c f s => greyDraw_code_ne_noopBpp (hpart c f) s f

/-- Settles O53: the order of the tests of R101, over the four masked values at 2bpp and over a whole byte at 8bpp. -/
theorem greyLevelsByValue : Obligations.GreyLevelsByValue := by
  unfold Obligations.GreyLevelsByValue
  intro c v
  refine ⟨⟨_, rfl, rfl, rfl, ?_⟩, ⟨_, rfl, rfl, rfl, rfl⟩, ⟨_, rfl, rfl, rfl, ?_⟩,
    fun bpp h2 h4 h8 => greyFormat_eq_none.2 ⟨h2, h4, h8⟩⟩
  · rcases two_bits_cases v with h | h | h | h <;> simp only [h] <;> rfl
  · have hmask : v &&& 0xFF = v := BitVec.and_allOnes
    simp only [hmask]
    rfl

/-! ### The source rows -/

/-- Settles O50: the rows of a sub-rectangle are among those of the placed operation, and the mirror keeps them there. -/
theorem sourceRowsStayInBitmap : Obligations.SourceRowsStayInBitmap := by
  unfold Obligations.SourceRowsStayInBitmap
  intro c bpp align b p r wl hl clip src sub i _ hplaced hsub hi
  have hrows := placed_rows hplaced
  have htop := (partition_lies hsub).rows
  simp only [SubRect.top] at htop
  have hrow : 0 ≤ src.yoff + sub.sdy + i ∧ src.yoff + sub.sdy + i < src.hsrc := by omega
  exact ⟨hrow.1, hrow.2, fun h => sourceRow_of_mirrorY h sub i, fun h => sourceRow_of_not_mirrorY h sub i,
    sourceRow_bounds hrow.1 hrow.2⟩

/-- Settles O56: each byte of either stream reads the same source bytes in the flipped copy. -/
theorem mirrorLaw : Obligations.MirrorLaw := by
  unfold Obligations.MirrorLaw
  intro s f bpp plane src src' sub _ hmirrored hplain hstride _ hxoff hyoff hinvert hleft htop hbottom hbytes
  have hcopy : FlippedCopy s src src' := ⟨hmirrored, hplain, hstride, hxoff, hyoff, hinvert, hbytes⟩
  have hrows : RowsInside src sub := ⟨htop, hbottom⟩
  exact ⟨hcopy.monoBytes_eq hrows hleft, hcopy.greyBytes_eq hrows f plane hleft⟩

/-! ### The planes -/

/-- Settles O59: a fill is the loop over the whole panel's partition, and FillPlanes emits it. -/
theorem fillPlanesIsTheLoop : Obligations.FillPlanesIsTheLoop := by
  unfold Obligations.FillPlanesIsTheLoop
  intro s planes value
  have hfill := fillEvents_eq s.cfg planes value
  refine ⟨hfill, ?_⟩
  rw [State.fillPlanes, hfill]
  rfl

/-- Settles O35: the plan is the placed geometry, and the body sends its planes after the redirect and EnsureInitPlain. -/
theorem monoWriteResults : Obligations.MonoWriteResults := by
  unfold Obligations.MonoWriteResults
  intro s b p r wl hl clip src hs before after sent
  have hone : s.writeEvents [.current] none clip src = sent .current := by
    rw [writeEvents_eq, List.flatMap_singleton]
    rfl
  have htwo : before ++ s.writeEvents [.previous, .current] none clip src = before ++ sent .previous ++ sent .current := by
    rw [writeEvents_both]
    exact (List.append_assoc before _ _).symm
  rw [← htwo, ← hone]
  refine ⟨fun himage => ?_, fun hpart => ?_⟩
  · have hwrite planes := monoWrite_result hs planes (plan := (planImage · 1 b r)) (planImage_of_placed himage)
    exact ⟨⟨_, rfl, hwrite [.current]⟩, ⟨_, rfl, hwrite [.previous, .current]⟩⟩
  · have hwrite planes := monoWrite_result hs planes (plan := (planPart · 1 8 b p r)) (planPart_of_placed hpart)
    exact ⟨⟨_, rfl, hwrite [.current]⟩, ⟨_, rfl, hwrite [.previous, .current]⟩⟩

/-- Settles O36: the bpp check passes, the plan is the placed geometry, and no update follows the two planes. -/
theorem greyWriteResults : Obligations.GreyWriteResults := by
  unfold Obligations.GreyWriteResults
  intro s bpp f b p r wl hl clip src hs hf sent events after
  obtain ⟨hbpp, hppb⟩ := greyFormat_fields hf
  have hevents : redirectEvents s.cfg s.st s.cfg.initialFill ++ ensureGreyEvents s.cfg (afterRedirect s.st)
      ++ s.writeEvents [.previous, .current] (some f) clip src = events := by
    rw [writeEvents_both]
    exact (List.append_assoc _ _ _).symm
  rw [← hevents, ← hppb, ← hbpp]
  refine ⟨fun himage => ?_, fun hpart => ?_⟩
  · have hwrite := greyWrite_result hs hf (plan := fun c f => planImage c f.bpp b r) (planImage_of_placed himage)
    exact ⟨_, rfl, hwrite⟩
  · have hwrite := greyWrite_result hs hf (plan := fun c f => planPart c f.bpp f.ppb b p r) (planPart_of_placed hpart)
    exact ⟨_, rfl, hwrite⟩

end Sys2Proof.Safety
end

section
/-! The refresh machine family (43_refresh_fsm.md). First the power-off sequence, HIBERNATE, and when a
region refresh is neither upgraded nor empty. -/

namespace Sys2Proof.Machine

open Sys2Proof.Safety

/-- PowerOff from a panel with power (R117). -/
theorem powerOff_runs (s : State) (h : s.st.powerIsOn = true) :
    Runs s s.powerOff { s.st with powerIsOn := false }
      (seqEvents s.cfg s.cfg.seqPowerOff ++ [.wait s.cfg.powerOffMs]) := by
  have h1 := emitSeq_runs s s.cfg.seqPowerOff
  have h2 := h1.trans (waitBusy_runs _ s.cfg.powerOffMs)
  have h3 := h2.thenSt { s.st with powerIsOn := false }
  unfold State.powerOff State.setPower
  rw [if_pos h, h2.hst, h1.hst]
  exact h3

/-- HIBERNATE without power and with a reset line (R126). -/
theorem hibernateBody_sleeps {s : State} (h : s.st.powerIsOn = false) (hline : s.cfg.hasResetLine = true) :
    s.hibernateBody = ((s.emit deepSleepEvents).withSt (afterHibernate s.st), .ok) := by
  unfold State.hibernateBody
  rw [powerOff_eq s h, if_pos hline]
  rfl

/-- HIBERNATE without power and without a reset line (R126, R153). -/
theorem hibernateBody_skips {s : State} (h : s.st.powerIsOn = false) (hline : s.cfg.hasResetLine = false) :
    s.hibernateBody = (s, .hibernateSkipped) := by
  unfold State.hibernateBody
  rw [powerOff_eq s h, hline]
  rfl

/-- No upgrade of a region refresh applies (R123). -/
theorem not_upgradesRegion_iff {st : DcpState} : st.upgradesRegion = false ↔
    st.initialRefreshPending = false ∧ st.refreshMode ≠ .forcedFullRefresh ∧ st.refreshMode ≠ .greyRefresh := by
  rw [← Bool.not_eq_true, upgradesRegion_iff, not_or, not_or, Bool.not_eq_true]

/-- A number below 2^15 is the signed value of its coordinate field (30_encoding.md R53). -/
theorem sext16_ofNat {n : Nat} (h : n < 2 ^ 15) : sext16 (BitVec.ofNat 16 n) = n := by
  have hn : (BitVec.ofNat 16 n).toNat = n := by
    rw [BitVec.toNat_ofNat]
    omega
  rw [sext16, BitVec.toInt_eq_toNat_of_lt (by omega), hn]

/-- The panel's extent fits the signed coordinate fields (00_scope.md R5). -/
theorem rectOf_panel {c : Cfg} (hc : c.geometryOk = true) :
    rectOf ⟨0, 0, BitVec.ofNat 16 c.width, BitVec.ofNat 16 c.height⟩ = panelRect c := by
  have hpanel := panel_bounds hc
  simp only [panelWidth, panelHeight] at hpanel
  unfold rectOf panelRect
  rw [sext16_ofNat (by omega : c.width < 2 ^ 15), sext16_ofNat (by omega : c.height < 2 ^ 15)]
  rfl

/-- The whole panel is no empty region (R122, R151). -/
theorem alignRegion_panelRect {c : Cfg} (hc : c.geometryOk = true) : alignRegion c (panelRect c) ≠ none := by
  have hpanel := panel_bounds hc
  rw [alignRegion_ne_none]
  simp only [panelRect]
  omega

end Sys2Proof.Machine
end

section
/-! Which update a refresh request runs (43_refresh_fsm.md R128), as a function of the seven fields. -/

namespace Sys2Proof.Safety

open Sys2Proof.Machine

/-- The update of a full refresh: an initialization makes it plain, and else the mode decides (R121). -/
def wholeUpdate (st : DcpState) : UpdateKind :=
  if refreshInitializes st then .full else if st.refreshMode = .greyRefresh then .grey else .full

theorem wholeUpdate_of_initializes {st : DcpState} (h : refreshInitializes st = true) : wholeUpdate st = .full :=
  if_pos h

theorem wholeUpdate_of_plain {st : DcpState} (h : st.refreshMode ≠ .greyRefresh) : wholeUpdate st = .full := by
  simp [wholeUpdate, h]

theorem wholeUpdate_of_grey {st : DcpState} (hi : refreshInitializes st = false) (h : st.refreshMode = .greyRefresh) :
    wholeUpdate st = .grey := by
  simp [wholeUpdate, hi, h]

/-- FullRefresh emits the initialization, if any, and its update (R121). -/
theorem fullRefreshEvents_eq (c : Cfg) (st : DcpState) :
    fullRefreshEvents c st
      = (if refreshInitializes st then initPlainEvents c st.hibernating else []) ++ updateEvents c (wholeUpdate st) := by
  unfold fullRefreshEvents wholeUpdate
  split
  · rfl
  · split <;> rfl

/-- The mode after a full refresh: `full_refresh` in the rows with an initialization, unchanged in the others (R128). -/
theorem afterFullRefresh_refreshMode (st : DcpState) :
    (afterFullRefresh st).refreshMode = if refreshInitializes st then .fullRefresh else st.refreshMode := by
  unfold afterFullRefresh
  split <;> rfl

theorem afterFullRefresh_initialRefreshPending (st : DcpState) : (afterFullRefresh st).initialRefreshPending = false := by
  unfold afterFullRefresh
  split <;> rfl

/-- A result with the events and the mode of an entry of the table is that entry. -/
theorem Result.runsUpdate {s t : State} {i : Instr} {code : StatusCode} {st : DcpState} {es : List Event} {kind : UpdateKind}
    (he : exec i s = .next t) (h : Result s t code st es)
    (hes : es = (if refreshInitializes s.st then initPlainEvents s.cfg s.st.hibernating else []) ++ updateEvents s.cfg kind)
    (hmode : st.refreshMode = if refreshInitializes s.st then .fullRefresh else s.st.refreshMode)
    (hpending : kind ≠ .part → st.initialRefreshPending = false) :
    RunsUpdate s i (refreshInitializes s.st) kind := by
  refine ⟨t, he, h.events.trans hes, ?_, ?_⟩
  · rw [h.st]
    exact hmode
  · rw [h.st]
    exact hpending

/-- Settles O28: the body is FullRefresh. -/
theorem refreshResult : Obligations.RefreshResult := by
  unfold Obligations.RefreshResult
  intro s hs
  exact ⟨_, rfl, operate_result rfl (fullRefresh_runs s.start hs)⟩

/-- The first column of the table (R128). -/
theorem refresh_runsUpdate {s : State} (hs : s.st.powerIsOn = false) :
    RunsUpdate s (.refresh false) (refreshInitializes s.st) (wholeUpdate s.st) := by
  obtain ⟨t, he, ht⟩ := refreshResult s hs
  exact ht.runsUpdate he (fullRefreshEvents_eq _ _) (afterFullRefresh_refreshMode _)
    fun _ => afterFullRefresh_initialRefreshPending _

/-- A region refresh that is upgraded has the first column's entry (R123, R128). -/
theorem refreshRegion_runsUpdate_whole {s : State} (hs : s.st.powerIsOn = false) (r : RectArgs)
    (hup : s.st.upgradesRegion = true) :
    RunsUpdate s (.refreshRegion r) (refreshInitializes s.st) (wholeUpdate s.st) := by
  have heq := (refreshRegionResult s r hs).1 (upgradesRegion_iff.1 hup)
  obtain ⟨t, he, h⟩ := refresh_runsUpdate hs
  exact ⟨t, heq.trans he, h⟩

/-- A region refresh that is not upgraded runs the partial update (R123 e, R128). -/
theorem refreshRegion_runsUpdate_part {s : State} (hs : s.st.powerIsOn = false) {r : RectArgs}
    (hr : alignRegion s.cfg (rectOf r) ≠ none) (hup : s.st.upgradesRegion = false) :
    RunsUpdate s (.refreshRegion r) (refreshInitializes s.st) .part := by
  obtain ⟨hpending, hforced, hgrey⟩ := not_upgradesRegion_iff.1 hup
  obtain ⟨t, he, ht⟩ := ((refreshRegionResult s r hs).2 hpending hforced hgrey).2 hr
  refine ht.runsUpdate he rfl ?_ fun hne => absurd rfl hne
  split <;> rfl

/-- The update of a region refresh without an initial refresh pending: the mode alone decides on the upgrade (R123). -/
def regionUpdate (st : DcpState) : UpdateKind :=
  if st.refreshMode = .forcedFullRefresh ∨ st.refreshMode = .greyRefresh then wholeUpdate st else .part

/-- A row of the table: its last column is its first, and its middle one follows the mode (R128). -/
theorem refreshTable_row {s : State} {r : RectArgs} {init : Bool} {whole region : UpdateKind}
    (hs : s.st.powerIsOn = false) (hr : alignRegion s.cfg (rectOf r) ≠ none) (hinit : refreshInitializes s.st = init)
    (hwhole : wholeUpdate s.st = whole) (hregion : regionUpdate s.st = region) :
    RunsUpdate s (.refresh false) init whole ∧
      (s.st.initialRefreshPending = false → RunsUpdate s (.refreshRegion r) init region) ∧
      (s.st.initialRefreshPending = true → RunsUpdate s (.refreshRegion r) init whole) := by
  subst hinit hwhole hregion
  refine ⟨refresh_runsUpdate hs, fun hpending => ?_, fun hpending => ?_⟩
  · unfold regionUpdate
    split
    · next hmode => exact refreshRegion_runsUpdate_whole hs r (upgradesRegion_iff.2 (.inr hmode))
    · next hmode => exact refreshRegion_runsUpdate_part hs hr (not_upgradesRegion_iff.2 ⟨hpending, not_or.1 hmode⟩)
  · exact refreshRegion_runsUpdate_whole hs r (upgradesRegion_iff.2 (.inl hpending))

end Sys2Proof.Safety
end

section
/-! The statements of the refresh machine family. -/

namespace Sys2Proof.Safety

open Sys2Proof.Machine

/-- Settles O16: WaitBusy runs its one Wait, and the one answer it takes is the next. -/
theorem waitBusyTakesOneAnswer : Obligations.WaitBusyTakesOneAnswer := by
  unfold Obligations.WaitBusyTakesOneAnswer
  intro s ms
  have h := waitBusy_runs s ms
  have hone : s.timesOut 1 = s.answerAt 0 := by simp [State.timesOut]
  refine ⟨h.hevents, h.hst, h.hcfg, funext h.hmemory, ?_, h.hbusyInputs⟩
  rw [← hone]
  exact h.hstatus

/-- Settles O24: PowerOff does nothing without power, and runs its sequence with it. -/
theorem powerOffResult : Obligations.PowerOffResult := by
  unfold Obligations.PowerOffResult
  intro s
  refine ⟨fun hoff => ⟨_, rfl, operate_didNothing ?_⟩,
    fun hon => ⟨_, rfl, operate_result rfl (powerOff_runs s.start hon)⟩⟩
  rw [powerOff_eq s.start hoff]

/-- Settles O25: with a reset line the body sends the deep-sleep command, without one it ends early. -/
theorem hibernateResult : Obligations.HibernateResult := by
  unfold Obligations.HibernateResult
  intro s hs
  refine ⟨fun hline => ⟨_, rfl, ?_⟩, fun hline => ⟨_, rfl, operate_didNothing (hibernateBody_skips hs hline)⟩⟩
  have hsleep : Runs s.start _ (afterHibernate s.st) deepSleepEvents := (Runs.emit s.start deepSleepEvents rfl).thenSt _
  exact operate_result (hibernateBody_sleeps hs hline) hsleep

/-- Settles O26: HIBERNATE leaves neither initialization, so the refresh that follows wakes and initializes. -/
theorem wakeAfterHibernate : Obligations.WakeAfterHibernate := by
  unfold Obligations.WakeAfterHibernate
  intro s hs hline
  obtain ⟨t, ht, hslept⟩ := (hibernateResult s hs).1 hline
  obtain ⟨u, hu, hwoken⟩ := refreshResult t (by rw [hslept.st]; exact hs)
  refine ⟨t, u, ht, hu, ?_, ?_⟩
  · rw [hwoken.events, hslept.st, hslept.environment.cfg]
    rfl
  · rw [hwoken.st, hslept.st]
    simp [afterFullRefresh, refreshInitializes, hs]

/-- Settles O30: the operand fields carry the panel's extent whole, and the whole panel is a region. -/
theorem partialRefreshIsWholePanelRegion : Obligations.PartialRefreshIsWholePanelRegion := by
  unfold Obligations.PartialRefreshIsWholePanelRegion
  intro s hc
  refine ⟨congrArg Host.Outcome.next (operate_congr ?_), fun hs => ⟨_, rfl, ?_⟩⟩
  · rw [rectOf_panel hc]
    rfl
  · obtain ⟨hruns, hcode⟩ := regionRefresh_runs s.start hs (panelRect s.cfg) (alignRegion_panelRect hc)
    exact operate_result (Prod.ext rfl hcode) hruns

/-- Settles O31: in each row the mode and the two flags give the initialization, the update and the upgrade. -/
theorem refreshTable : Obligations.RefreshTable := by
  unfold Obligations.RefreshTable
  intro s r hs _ hr row
  have hfast (hm : s.st.refreshMode = .fastRefresh) : row true .full .part .full := by
    have hi : refreshInitializes s.st = true := by simp [refreshInitializes, hm]
    exact refreshTable_row hs hr hi (wholeUpdate_of_initializes hi) (by simp [regionUpdate, hm])
  refine ⟨fun hm hd _ => ?_, fun hm hd hg => ?_, fun hm hd hg => ?_, fun hm hd hg => ?_, fun hm _ => hfast hm,
    fun hm _ _ => hfast hm, fun hm => ?_⟩
  · have hi : refreshInitializes s.st = false := by simp [refreshInitializes, hm, hd]
    exact refreshTable_row hs hr hi (wholeUpdate_of_plain (by simp [hm])) (by simp [regionUpdate, hm])
  · have hi : refreshInitializes s.st = true := by simp [refreshInitializes, hd, hg]
    exact refreshTable_row hs hr hi (wholeUpdate_of_initializes hi) (by simp [regionUpdate, hm])
  · have hi : refreshInitializes s.st = false := by simp [refreshInitializes, hm, hg]
    have hw : wholeUpdate s.st = .grey := wholeUpdate_of_grey hi hm
    exact refreshTable_row hs hr hi hw (by simp [regionUpdate, hm, hw])
  · have hi : refreshInitializes s.st = true := by simp [refreshInitializes, hd, hg]
    have hw : wholeUpdate s.st = .full := wholeUpdate_of_initializes hi
    exact refreshTable_row hs hr hi hw (by simp [regionUpdate, hm, hw])
  · have hi : refreshInitializes s.st = true := by simp [refreshInitializes, hm]
    have hw : wholeUpdate s.st = .full := wholeUpdate_of_initializes hi
    exact refreshTable_row hs hr hi hw (by simp [regionUpdate, hm, hw])

/-- Settles O33: the bodies differ in their planes only. -/
theorem fillResults : Obligations.FillResults := by
  unfold Obligations.FillResults
  intro value s hs
  have hfill (planes : List Plane) : Result s (s.operate fun s => (s.fillBody planes value, .ok)) .ok _ _ :=
    operate_result rfl (fillBody_runs s.start hs planes value)
  exact ⟨⟨_, rfl, hfill [.current]⟩, ⟨_, rfl, hfill [.previous, .current]⟩⟩

end Sys2Proof.Safety
end

section
/-! The write operations family (44_write_ops.md). First what two operations make as one: the bodies run one after the
other, and one operation has one number, one event list and one status (R143 to R146). -/

namespace Sys2Proof.Machine

open Sys2Proof.Safety

/-! ### Two operations as one -/

/-- The state under another operation number (log 6). -/
def State.withEpoch (s : State) (epoch : Nat) : State := { s with epoch := epoch }

/-- A body's state with nothing emitted and nothing noted yet. -/
def State.cleared (s : State) : State := { s with events := [], status := 0 }

/-- What `t`, then `u`, leave when they are one operation: the state of `u`, the events of both, and one status with the
bits of both. -/
def State.joined (t u : State) : State :=
  { u with events := t.events ++ u.events, status := t.status ||| u.status, epoch := t.epoch }

/-- An operation that starts under the number of the one before starts in the state that one's body left. -/
theorem Runs.restart {s t : State} {st : DcpState} {es : List Event} (h : Runs s.start t st es) (code : StatusCode) :
    ((t.complete code).withEpoch s.epoch).start = t.cleared := by
  have hengine := h.hengine
  have hdone := h.hdone
  have hepoch := h.hepoch
  obtain ⟨⟩ := t
  simp_all [State.complete, State.start, State.cleared, State.withEpoch]

theorem cleared_view (s : State) : s.cleared.view = s.view := by
  have hsent : s.cleared.writeEvents = s.writeEvents := by
    funext planes format clip src
    exact writeEvents_congr rfl (fun space => by cases space <;> rfl) rfl planes format clip src
  rw [State.view, hsent]
  rfl

theorem noted_eq_or (timedOut : Bool) (status : Byte) : noted timedOut status = status ||| noted timedOut 0 := by
  cases timedOut <;> simp [noted]

/-- A body that goes on where another stopped is the body of a second operation. -/
theorem ran_complete_eq_joined (s : State) (st : DcpState) (es : List Event) (code : StatusCode) :
    (s.ran st es).complete code = (s.complete .ok).joined ((s.cleared.ran st es).complete code) := by
  have hstatus : noted (s.timesOut (waitCount es)) s.status ||| code.toByte
      = s.status ||| 0#8 ||| (noted (s.timesOut (waitCount es)) 0 ||| code.toByte) := by
    rw [noted_eq_or, BitVec.or_zero, BitVec.or_assoc]
  simp only [State.ran, State.complete, hstatus]
  rfl

/-- A body in closed form (00_scope.md R3). -/
theorem Implements.body_eq {body : State → State × StatusCode} {effect : View → Effect} (h : Implements body effect)
    {s : State} (hs : s.st.powerIsOn = false) :
    body s = (s.ran (effect s.view).st (effect s.view).events, (effect s.view).code) :=
  Prod.ext (h.runs s hs).eq (h.code s hs)

/-- The operation of a lawful body leaves the power off. -/
theorem Lawful.operate_powerIsOn {body : State → State × StatusCode} (h : Lawful body) {s : State}
    (hs : s.st.powerIsOn = false) : (s.operate body).st.powerIsOn = false := by
  obtain ⟨effect, h⟩ := h
  rw [h.operate_eq hs]
  exact h.power s.view hs

/-- It completes with the body's code and writes nothing of the environment. -/
theorem Lawful.operate_result {body : State → State × StatusCode} (h : Lawful body) {s : State}
    (hs : s.st.powerIsOn = false) {code : StatusCode} (hcode : (body s.start).2 = code) :
    Result s (s.operate body) code (s.operate body).st (s.operate body).events := by
  obtain ⟨effect, h⟩ := h
  have hresult := Machine.operate_result (Prod.ext rfl hcode) (h.runs s.start hs)
  rwa [← hresult.st, ← hresult.events] at hresult

/-- Two lawful bodies in one operation are two operations, the second under the number of the first. -/
theorem Lawful.operate_comp {body body' : State → State × StatusCode} (h : Lawful body) (h' : Lawful body') {s : State}
    (hs : s.st.powerIsOn = false) (hok : (body s.start).2 = .ok) :
    s.operate (fun s => body' (body s).1)
      = (s.operate body).joined (((s.operate body).withEpoch s.epoch).operate body') := by
  obtain ⟨effect, h⟩ := h
  obtain ⟨effect', h'⟩ := h'
  have hfirst := h.runs s.start hs
  have hpower : (body s.start).1.st.powerIsOn = false := by
    rw [hfirst.hst]
    exact h.power _ hs
  have hended : s.operate body = (body s.start).1.complete .ok := by rw [State.operate, hok]
  have hrestart : ((s.operate body).withEpoch s.epoch).start = (body s.start).1.cleared := by
    rw [hended, hfirst.restart]
  rw [hended] at hrestart ⊢
  rw [State.operate, State.operate, hrestart, h'.body_eq hpower, h'.body_eq (s := (body s.start).1.cleared) hpower,
    cleared_view]
  exact ran_complete_eq_joined ..

/-! ### The region refresh of a draw -/

/-- A region refresh reads no source memory, so its operation number does not matter. -/
theorem operate_regionRefresh_withEpoch {s : State} (hs : s.st.powerIsOn = false) {r : Rect}
    (hr : alignRegion s.cfg r ≠ none) (epoch : Nat) :
    (s.withEpoch epoch).operate (fun s => s.regionRefresh r)
      = (s.operate fun s => s.regionRefresh r).withEpoch (epoch + 1) := by
  have hclosed (s : State) (hs : s.st.powerIsOn = false) (hr : alignRegion s.cfg r ≠ none) :
      (s.operate fun s => s.regionRefresh r)
        = (s.start.ran (afterRegionRefresh s.st) (regionRefreshEvents s.cfg s.st)).complete .ok := by
    obtain ⟨hruns, hcode⟩ := regionRefresh_runs s.start hs r hr
    exact operate_eq (Prod.ext rfl hcode) hruns
  rw [hclosed s hs hr, hclosed (s.withEpoch epoch) hs hr]
  rfl

/-- A lawful body and the region refresh of its draw are two operations. -/
theorem Lawful.operate_comp_regionRefresh {body : State → State × StatusCode} (h : Lawful body) {s : State}
    (hs : s.st.powerIsOn = false) (hok : (body s.start).2 = .ok) {r : Rect} (hr : alignRegion s.cfg r ≠ none) :
    s.operate (fun s => (body s).1.regionRefresh r)
      = (s.operate body).joined
          (((s.operate body).operate fun s => s.regionRefresh r).withEpoch (s.epoch + 1)) := by
  have hcfg : (s.operate body).cfg = s.cfg := (h.operate_result hs hok).environment.cfg
  rw [h.operate_comp (.regionRefresh r) hs hok, operate_regionRefresh_withEpoch (h.operate_powerIsOn hs) (hcfg ▸ hr)]

/-- That region refresh is no no-op. -/
theorem Lawful.comp_regionRefresh_ok {body : State → State × StatusCode} (h : Lawful body) {s : State}
    (hs : s.st.powerIsOn = false) {r : Rect} (hr : alignRegion s.cfg r ≠ none) :
    ((body s.start).1.regionRefresh r).2 = .ok := by
  obtain ⟨effect, h⟩ := h
  have hfirst := h.runs s.start hs
  refine (regionRefresh_runs _ ?_ r (by rwa [hfirst.hcfg])).2
  rw [hfirst.hst]
  exact h.power _ hs

/-! ### The region of a placed request -/

/-- The geometry of a write that is not empty leaves a region to refresh (R143): what is left of the aligned rectangle
is left of the rectangle too. -/
theorem alignRegion_of_clipped {c : Cfg} (hc : c.geometryOk = true) {r : Rect} {clip : Clip} (hw : 0 < r.w) (hh : 0 < r.h)
    (h : clipToPanel c (alignWrite r) = some clip) : alignRegion c r ≠ none := by
  have hpanel := panel_bounds hc
  obtain ⟨hcols, hrows, -⟩ := clipToPanel_eq_some.1 h
  rw [alignRegion_ne_none]
  simp only [alignWrite, floor8, ceil8] at hcols hrows
  omega

theorem alignRegion_of_imagePlaced {c : Cfg} (hc : c.geometryOk = true) {bpp : Int} {b : BitmapArgs} {r : RectArgs}
    {clip : Clip} {src : SourceView} (h : ImagePlaced c bpp b r clip src) : alignRegion c (rectOf r) ≠ none :=
  alignRegion_of_clipped hc h.width h.height h.clipped

/-- A number between 0 and a signed coordinate is the signed value of its field (30_encoding.md R53). -/
theorem sext16_ofInt_of_le {v : Int} {x : Half} (h0 : 0 ≤ v) (h : v ≤ x.toInt) : sext16 (BitVec.ofInt 16 v) = v := by
  have hx := BitVec.toInt_lt (x := x)
  rw [sext16, BitVec.toInt_ofInt_eq_self] <;> omega

/-- The operand fields of the limited rectangle carry it whole (R144, R146). -/
theorem alignRegion_of_partPlaced {c : Cfg} (hc : c.geometryOk = true) {bpp align : Int} {b : BitmapArgs} {p : PartArgs}
    {r : RectArgs} {wl hl : Int} {clip : Clip} {src : SourceView} (h : PartPlaced c bpp align b p r wl hl clip src) :
    rectOf ⟨r.x, r.y, BitVec.ofInt 16 wl, BitVec.ofInt 16 hl⟩ = ⟨(rectOf r).x, (rectOf r).y, wl, hl⟩ ∧
      alignRegion c ⟨(rectOf r).x, (rectOf r).y, wl, hl⟩ ≠ none := by
  obtain ⟨hw, hh⟩ := h.extent
  obtain ⟨hx, hx'⟩ := h.column
  obtain ⟨hy, hy'⟩ := h.row
  have hwl := h.limitedWidth
  have hhl := h.limitedHeight
  have hoffset : p.xPart.toInt - p.xPart.toInt % align ≤ p.xPart.toInt := by
    rcases eq_or_ne align 0 with rfl | halign
    · omega
    · have := Int.emod_nonneg p.xPart.toInt halign
      omega
  refine ⟨?_, alignRegion_of_clipped hc (by simp only; omega) (by simp only; omega) h.clipped⟩
  have hwidth : sext16 (BitVec.ofInt 16 wl) = wl := sext16_ofInt_of_le (x := r.w) (by omega) (by omega)
  have hheight : sext16 (BitVec.ofInt 16 hl) = hl := sext16_ofInt_of_le (x := r.h) (by omega) (by omega)
  simp only [rectOf, hwidth, hheight]

/-! ### The draws -/

/-- A 1bpp write whose geometry succeeded runs its body. -/
theorem operate_monoWrite {s : State} {plan : Cfg → Except StatusCode WritePlan} {p : WritePlan}
    (hp : plan s.cfg = .ok p) (planes : List Plane) :
    (s.operate fun s => s.monoWrite planes (plan s.cfg)) = s.operate fun s => (s.monoBody planes p, .ok) :=
  operate_congr (by simp only [start_cfg, hp, State.monoWrite])

/-- So does a grayscale write whose format and geometry succeeded. -/
theorem operate_greyWrite {s : State} {bpp : Byte} {f : GreyFormat} (hf : greyFormat s.cfg bpp = some f)
    {plan : Cfg → GreyFormat → Except StatusCode WritePlan} {p : WritePlan} (hp : plan s.cfg f = .ok p) :
    (s.operate fun s => s.withGreyFormat bpp fun f => s.greyWrite f (plan s.cfg f))
      = s.operate fun s => (s.greyBody f p, .ok) :=
  operate_congr (by simp only [State.withGreyFormat, start_cfg, hf, hp, State.greyWrite])

/-- A 1bpp draw whose geometry succeeded is its write, its region refresh and its `Again` write (R143, R144). -/
theorem monoDraw_combines {s : State} (hs : s.st.powerIsOn = false) {plan : Cfg → Except StatusCode WritePlan}
    {p : WritePlan} (hp : plan s.cfg = .ok p) (hr : alignRegion s.cfg p.region ≠ none) :
    let t1 := s.operate fun s => s.monoWrite [.current] (plan s.cfg)
    let t2 := t1.operate fun s => s.regionRefresh p.region
    let t3 := State.operate { t2 with epoch := s.epoch } fun s => s.monoWrite [.previous, .current] (plan s.cfg)
    let t := s.operate fun s => s.monoDraw (plan s.cfg)
    Result s t .ok t3.st (t1.events ++ t2.events ++ t3.events) ∧
      t.status = t1.status ||| t2.status ||| t3.status ∧ t.busyInputs = t3.busyInputs ∧ t.draws = t3.draws := by
  intro t1 t2 t3 t
  have hwrite := Lawful.monoBody [.current] p
  have hshow := hwrite.comp (.regionRefresh p.region)
  have hok := hwrite.comp_regionRefresh_ok hs hr
  have h12 : (s.operate fun s => (s.monoBody [.current] p).regionRefresh p.region)
      = t1.joined (t2.withEpoch (s.epoch + 1)) := by
    simp only [t2, t1, operate_monoWrite hp]
    exact hwrite.operate_comp_regionRefresh hs rfl hr
  have hcfg : t2.cfg = s.cfg := by
    have henv := (hshow.operate_result hs hok).environment.cfg
    rwa [h12] at henv
  have h3 : t3 = ((t1.joined (t2.withEpoch (s.epoch + 1))).withEpoch s.epoch).operate
      fun s => (s.monoBody [.previous, .current] p, .ok) := operate_monoWrite (hcfg ▸ hp) _
  have hbody : s.start.monoDraw (plan s.start.cfg)
      = (((s.start.monoBody [.current] p).regionRefresh p.region).1.monoBody [.previous, .current] p, .ok) := by
    rw [start_cfg, hp, State.monoDraw]
  have hdraw : t = (t1.joined (t2.withEpoch (s.epoch + 1))).joined t3 := by
    rw [h3, ← h12, ← hshow.operate_comp (.monoBody [.previous, .current] p) hs hok]
    exact operate_congr hbody
  have hresult : Result s t .ok t.st t.events := (Lawful.monoDraw plan).operate_result hs (congrArg Prod.snd hbody)
  rw [hdraw] at hresult ⊢
  exact ⟨hresult, rfl, rfl, rfl⟩

/-- The region refresh after a grayscale write is the grayscale update when the write leaves `grey_refresh`: the grayscale
initialization has run (R145, 43_refresh_fsm.md R121, R123). -/
theorem regionRefreshEvents_afterEnsureGrey (c : Cfg) {st : DcpState}
    (h : (afterEnsureGrey st).refreshMode = .greyRefresh) :
    regionRefreshEvents c (afterEnsureGrey st) = updateGreyEvents c := by
  have hgrey : (afterEnsureGrey st).grayscaleInitialized = true := by
    unfold afterEnsureGrey
    split
    · assumption
    · rfl
  simp [regionRefreshEvents, fullRefreshEvents, refreshInitializes, h, hgrey]

/-- A grayscale draw whose format and geometry succeeded is its write and its region refresh (R145, R146). -/
theorem greyDraw_combines {s : State} (hs : s.st.powerIsOn = false) {bpp : Byte} {f : GreyFormat}
    (hf : greyFormat s.cfg bpp = some f) {plan : Cfg → GreyFormat → Except StatusCode WritePlan} {p : WritePlan}
    (hp : plan s.cfg f = .ok p) (hr : alignRegion s.cfg p.region ≠ none) :
    let t1 := s.operate fun s => s.withGreyFormat bpp fun f => s.greyWrite f (plan s.cfg f)
    let t2 := t1.operate fun s => s.regionRefresh p.region
    let t := s.operate fun s => s.withGreyFormat bpp fun f => s.greyDraw f (plan s.cfg f)
    Result s t .ok t2.st (t1.events ++ t2.events) ∧ t.status = t1.status ||| t2.status ∧
      t.busyInputs = t2.busyInputs ∧ t.draws = t2.draws ∧
      (t1.st.refreshMode = .greyRefresh → t2.events = updateGreyEvents s.cfg) := by
  intro t1 t2 t
  have hwrite := Lawful.greyBody f p
  have hok := hwrite.comp_regionRefresh_ok hs hr
  have hone : t = s.operate fun s => (s.greyBody f p).regionRefresh p.region := by
    refine operate_congr ?_
    simp only [State.withGreyFormat, start_cfg, hf, hp, State.greyDraw]
    exact Prod.ext rfl hok.symm
  have hdraw : t = t1.joined (t2.withEpoch (s.epoch + 1)) := by
    rw [hone]
    simp only [t2, t1, operate_greyWrite hf hp]
    exact hwrite.operate_comp_regionRefresh hs rfl hr
  have hresult : Result s t .ok t.st t.events := by
    rw [hone]
    exact (hwrite.comp (.regionRefresh p.region)).operate_result hs hok
  have hfirst := greyWrite_result hs hf hp
  have hregion (hmode : t1.st.refreshMode = .greyRefresh) : t2.events = updateGreyEvents s.cfg := by
    have hcfg : t1.cfg = s.cfg := hfirst.environment.cfg
    have hst : t1.st = afterEnsureGrey (afterRedirect s.st) := hfirst.st
    obtain ⟨hruns, -⟩ := regionRefresh_runs t1.start (r := p.region) (by simpa [hst] using hs) (by simpa [hcfg] using hr)
    have hevents : t2.events = regionRefreshEvents t1.cfg t1.st := hruns.hevents
    rw [hst] at hmode
    rw [hevents, hcfg, hst, regionRefreshEvents_afterEnsureGrey s.cfg hmode]
  rw [hdraw] at hresult ⊢
  exact ⟨hresult, rfl, rfl, rfl, hregion⟩

end Sys2Proof.Machine
end

section
/-! The optional sink (93_implementation_defined.md G7) over a whole fill: the blocks of a plane cover the plane (R132), what
is filled stays filled, and a refresh stores nothing. -/

namespace Sys2Proof.Machine

open Sys2Proof.Safety

/-! ### Events that store nothing -/

/-- Whatever the panel, the events change neither controller. -/
def Silent (c : Cfg) (es : List Event) : Prop :=
  ∀ (p : Panel) (t : Target), (Panel.run c p es).controller t = p.controller t

theorem Silent.append {c : Cfg} {es es' : List Event} (h : Silent c es) (h' : Silent c es') : Silent c (es ++ es') :=
  fun p t => by rw [Panel.run_append, h', h]

theorem Silent.ite {c : Cfg} {b : Prop} [Decidable b] {es es' : List Event} (h : Silent c es) (h' : Silent c es') :
    Silent c (if b then es else es') := by
  split
  · exact h
  · exact h'

/-- A command byte is its master form with its target bit (30_encoding.md R58). -/
theorem code_eq_masked_or (code : Byte) : code = code &&& 0x7F ||| (Target.ofCode code).bit := by
  decide +revert

theorem masked_msb (code : Byte) : (code &&& 0x7F).msb = false := by
  decide +revert

/-- A command the sink ignores is none of the window and plane commands and not CMD_ENTRY_MODE. -/
theorem masked_ne_of_not_sinkCode {c : Cfg} {code : Byte} (h : sinkCode c code = false) {e : Byte}
    (he : e ∈ [0x24, 0x26, 0x44, 0x45, 0x4E, 0x4F, c.cmdEntryMode]) : code &&& 0x7F ≠ e := fun heq => by
  rw [sinkCode, heq, List.contains_iff_mem.2 he] at h
  cases h

/-- So it has no parameter the sink takes. -/
theorem parameter_of_not_sinkCode {c : Cfg} {code : Byte} (h : sinkCode c code = false) (n : Nat) (d : Byte)
    (k : Controller) : k.parameter c (code &&& 0x7F) n d = k := by
  have hentry : code &&& 0x7F ≠ c.cmdEntryMode := masked_ne_of_not_sinkCode h (by simp)
  have hfixed : ∀ e ∈ ([0x24, 0x26, 0x44, 0x45, 0x4E, 0x4F] : List Byte), (code &&& 0x7F).toNat ≠ e.toNat :=
    fun e he heq =>
      masked_ne_of_not_sinkCode h (List.mem_append_left [c.cmdEntryMode] he) (BitVec.eq_of_toNat_eq heq)
  generalize code &&& 0x7F = master at hentry hfixed ⊢
  simp only [List.forall_mem_cons] at hfixed
  unfold Controller.parameter
  split <;> simp_all

/-- It therefore changes neither controller. -/
theorem Silent.command {c : Cfg} {code : Byte} (h : sinkCode c code = false) (ps : List Byte) :
    Silent c (commandEvents code ps) := by
  have hplane : planeOfCode (code &&& 0x7F) = none := by
    rw [planeOfCode, if_neg (masked_ne_of_not_sinkCode h (by simp)), if_neg (masked_ne_of_not_sinkCode h (by simp))]
  have hparameters (n : Nat) (k : Controller) : k.parameters c (code &&& 0x7F) n ps = k := by
    induction ps generalizing n with
    | nil => rfl
    | cons d rest ih => rw [Controller.parameters, parameter_of_not_sinkCode h, ih]
  have hdrives := Drives.command (c := c) (Target.ofCode code) ps (masked_msb code) hplane
  rw [← code_eq_masked_or] at hdrives
  intro p t
  by_cases ht : t = Target.ofCode code
  · rw [ht, hdrives.target, hparameters]
  · exact hdrives.other p t ht

/-- Nor does a quiet item of a CFG sequence (30_encoding.md R61). -/
theorem Silent.item {c : Cfg} {item : SeqItem} (h : SeqItem.quiet c item = true) : Silent c (itemEvents c item) := by
  cases item with
  | command code ps => exact .command (by simpa [SeqItem.quiet] using h) ps
  | lut code => exact .command (by simpa [SeqItem.quiet] using h) c.lut4G
  | busyWait ms => exact fun _ _ => rfl
  | pause ms => exact fun _ _ => rfl

theorem Silent.seq {c : Cfg} {items : List SeqItem} (h : ∀ item ∈ items, SeqItem.quiet c item = true) :
    Silent c (seqEvents c items) := by
  induction items with
  | nil => exact fun _ _ => rfl
  | cons item rest ih =>
    rw [List.forall_mem_cons] at h
    exact (Silent.item h.1).append (ih h.2)

/-- Under an admissible sink configuration every CFG sequence is made of quiet items. -/
theorem sinkCfg_quiet {c : Cfg} (h : sinkCfg c = true) (item : SeqItem)
    (hitem : item ∈ c.seqInitPlain ++ c.seqInitGrey ++ c.seqPowerOn ++ c.seqPowerOff ++ c.seqUpdateFullSlow
      ++ c.seqUpdateFullFast ++ c.seqUpdateGrey) : SeqItem.quiet c item = true := by
  simp only [sinkCfg, Bool.and_eq_true] at h
  exact List.all_eq_true.1 h.2 item hitem

/-- A full refresh stores nothing (43_refresh_fsm.md R121). -/
theorem Silent.fullRefresh {c : Cfg} (h : sinkCfg c = true) (st : DcpState) : Silent c (fullRefreshEvents c st) := by
  have hinit : Silent c (initPlainEvents c st.hibernating) :=
    (Silent.ite (fun _ _ => rfl) fun _ _ => rfl).append (.seq fun item hi => sinkCfg_quiet h item (by simp [hi]))
  have hpower : Silent c (powerOnEvents c) :=
    (Silent.seq fun item hi => sinkCfg_quiet h item (by simp [hi])).append fun _ _ => rfl
  have hupdate : Silent c (seqEvents c (if c.fastFullUpdate then c.seqUpdateFullFast else c.seqUpdateFullSlow)) := by
    refine .seq fun item hi => sinkCfg_quiet h item ?_
    split at hi <;> simp [hi]
  have hgrey : Silent c (seqEvents c c.seqUpdateGrey) := .seq fun item hi => sinkCfg_quiet h item (by simp [hi])
  have hfull : Silent c (updateFullEvents c) := (hpower.append hupdate).append fun _ _ => rfl
  have hupdateGrey : Silent c (updateGreyEvents c) := (hpower.append hgrey).append fun _ _ => rfl
  exact (hinit.append hfull).ite (hupdateGrey.ite hfull)

/-! ### A byte of display RAM -/

/-- A byte of a plane of a controller, and what it is to hold. -/
structure Spot where
  target : Target
  plane : Plane
  col : Byte
  row : Half
  value : Byte

/-- The panel knows that value at that byte. -/
def Spot.heldBy (x : Spot) (p : Panel) : Prop := p.read? x.target x.plane x.col x.row = some x.value

/-- The events keep the value where it is held. -/
def Spot.KeptBy (x : Spot) (c : Cfg) (es : List Event) : Prop := ∀ p, x.heldBy p → x.heldBy (Panel.run c p es)

/-- After the events the value is held, whatever the panel was. -/
def Spot.SetBy (x : Spot) (c : Cfg) (es : List Event) : Prop := ∀ p, x.heldBy (Panel.run c p es)

theorem Silent.kept {c : Cfg} {es : List Event} (h : Silent c es) (x : Spot) : x.KeptBy c es := fun p hp => by
  rwa [Spot.heldBy, Panel.read?, h]

theorem Spot.KeptBy.flatMap {α : Type} {x : Spot} {c : Cfg} {f : α → List Event} {l : List α}
    (h : ∀ a ∈ l, x.KeptBy c (f a)) : x.KeptBy c (l.flatMap f) := by
  induction l with
  | nil => exact fun _ hp => hp
  | cons a rest ih =>
    rw [List.forall_mem_cons] at h
    intro p hp
    rw [List.flatMap_cons, Panel.run_append]
    exact ih h.2 _ (h.1 p hp)

theorem Spot.SetBy.thenKept {x : Spot} {c : Cfg} {es es' : List Event} (h : x.SetBy c es) (h' : x.KeptBy c es') :
    x.SetBy c (es ++ es') := fun p => by
  rw [Panel.run_append]
  exact h' _ (h p)

theorem Spot.SetBy.after {x : Spot} {c : Cfg} {es : List Event} (h : x.SetBy c es) (before : List Event) :
    x.SetBy c (before ++ es) := fun p => by
  rw [Panel.run_append]
  exact h _

/-- One list of a loop sets it and the others keep it. -/
theorem Spot.SetBy.flatMap {α : Type} {x : Spot} {c : Cfg} {f : α → List Event} {l : List α} {a : α} (ha : a ∈ l)
    (hset : x.SetBy c (f a)) (hkept : ∀ a ∈ l, x.KeptBy c (f a)) : x.SetBy c (l.flatMap f) := by
  obtain ⟨front, back, rfl⟩ := List.append_of_mem ha
  rw [List.flatMap_append, List.flatMap_cons]
  refine Spot.SetBy.after (hset.thenKept (.flatMap fun b hb => hkept b ?_)) _
  simp [hb]

/-! ### A filled block -/

/-- Writing one value at some addresses leaves it there, and leaves it where it was. -/
theorem Memory.read_writeFrom_replicate {key : Nat → Nat} {a n k : Nat} {v : Byte} {m : Memory}
    (h : (∃ i, n ≤ i ∧ i < n + k ∧ a = key i) ∨ Memory.read? m a = some v) :
    Memory.read? (Memory.writeFrom key n (List.replicate k v) m) a = some v := by
  induction k generalizing n m with
  | zero =>
    obtain ⟨i, hi, hi', -⟩ | hm := h
    · omega
    · exact hm
  | succ k ih =>
    rw [List.replicate_succ, Memory.writeFrom]
    refine ih ?_
    by_cases ha : a = key n
    · rw [ha]
      exact .inr (read_write_same ..)
    · rw [read_write_other m v ha]
      refine h.imp_left fun ⟨i, hi, hi', hkey⟩ => ⟨i, ?_, by omega, hkey⟩
      have hne : i ≠ n := fun heq => ha (heq ▸ hkey)
      omega

/-- The byte columns and rows of a sub-rectangle's window (41_ram_window.md R85). -/
def SubRect.holds (sub : SubRect) (col : Byte) (row : Half) : Prop :=
  (sub.lx / 8 ≤ col.toNat ∧ (col.toNat : Int) < (sub.lx + sub.w) / 8) ∧
    (sub.ly ≤ row.toNat ∧ (row.toNat : Int) < sub.ly + sub.h)

/-- The walk of a window comes to every byte of it. -/
theorem SubRect.InRam.walk_covers {c : Cfg} {sub : SubRect} (h : sub.InRam c) {col : Byte} {row : Half}
    (hin : sub.holds col row) : ∃ n < sub.walk.rows * sub.walk.cols, cellKey col row = sub.walk.key n := by
  obtain ⟨hlx, hlx8⟩ := h.lx
  obtain ⟨hw, hw8⟩ := h.w
  obtain ⟨hcols, hrows⟩ := hin
  obtain ⟨j, hj, hcol⟩ : ∃ j < sub.walk.cols, sub.walk.col j = col.toNat := by
    simp only [SubRect.walk, Walk.col, columnEnds]
    split
    · exact ⟨(col.toNat - sub.lx / 8).toNat, by omega, by omega⟩
    · exact ⟨((sub.lx + sub.w) / 8 - 1 - col.toNat).toNat, by omega, by omega⟩
  obtain ⟨i, hi, hrow⟩ : ∃ i < sub.walk.rows, sub.walk.row i = row.toNat := by
    simp only [SubRect.walk, Walk.row, rowEnds]
    split
    · exact ⟨(row.toNat - sub.ly).toNat, by omega, by omega⟩
    · exact ⟨(sub.ly + sub.h - 1 - row.toNat).toNat, by omega, by omega⟩
  refine ⟨i * sub.walk.cols + j, by nlinarith, ?_⟩
  rw [sub.walk.key_eq i hj, Walk.cell, hcol, hrow]
  simp

/-- A fill has one byte for each step of the walk (42_pixel_packer.md R99). -/
theorem SubRect.InRam.fillBytes_eq {c : Cfg} {sub : SubRect} (h : sub.InRam c) (value : Byte) :
    fillBytes sub value = List.replicate (sub.walk.rows * sub.walk.cols) value := by
  obtain ⟨hw, -⟩ := h.w
  rw [fillBytes, Int.toNat_mul (by omega) h.h.le, mul_comm]
  rfl

/-- A filled block leaves its value at every byte of its window in its plane, and wherever it was held (44_write_ops.md
R132). -/
theorem planeBlock_fill_held {c : Cfg} (hc : c.geometryOk = true) (hsink : sinkCfg c = true) {sub : SubRect}
    (hram : sub.InRam c) (plane : Plane) (x : Spot) {p : Panel}
    (h : (x.target = sub.target ∧ x.plane = plane ∧ sub.holds x.col x.row) ∨ x.heldBy p) :
    x.heldBy (Panel.run c p (planeBlock c plane sub (fillBytes sub x.value))) := by
  have hbytes := hram.fillBytes_eq x.value
  have hlen : (fillBytes sub x.value).length = sub.walk.rows * sub.walk.cols := by rw [hbytes, List.length_replicate]
  obtain ⟨hstored, hother⟩ := planeBlock_stores hc hsink hram hlen plane p
  unfold Spot.heldBy Panel.read? at h ⊢
  by_cases ht : x.target = sub.target
  · rw [ht] at h ⊢
    by_cases hq : x.plane = plane
    · rw [hq] at h ⊢
      rw [hstored, hbytes]
      refine Memory.read_writeFrom_replicate (h.imp_left fun ⟨_, _, hin⟩ => ?_)
      obtain ⟨n, hn, hkey⟩ := hram.walk_covers hin
      exact ⟨n, by omega, by omega, hkey⟩
    · rw [hother _ hq]
      exact h.resolve_left fun ⟨_, hplane, _⟩ => hq hplane
  · rw [(Drives.planeBlock hsink plane sub _).other p _ ht]
    exact h.resolve_left fun ⟨htarget, _⟩ => ht htarget

/-! ### A whole fill -/

/-- The sub-rectangles of the whole panel cover the RAM of both controllers (40_partitioner.md R79). -/
theorem wholePanel_covers {c : Cfg} (hc : c.geometryOk = true) (t : Target) {col : Byte} {row : Half}
    (hcol : (col.toNat : Int) < controllerWidth c / 8) (hrow : (row.toNat : Int) < controllerHeight c) :
    ∃ sub ∈ partition c (wholePanel c), t = sub.target ∧ sub.holds col row := by
  have hpanel := panel_bounds hc
  unfold controllerWidth at hcol
  unfold controllerHeight at hrow
  rw [(oneQuadrantAndWholePanel c hc).2]
  by_cases hupper : (row.toNat : Int) < panelHeight c / 2
  · cases t with
    | slave => exact ⟨_, .head _, rfl, by simp only [SubRect.holds, controllerWidth]; omega⟩
    | master =>
      exact ⟨_, .tail _ (.tail _ (.tail _ (.head _))), rfl, by simp only [SubRect.holds, controllerWidth]; omega⟩
  · cases t with
    | slave => exact ⟨_, .tail _ (.head _), rfl, by simp only [SubRect.holds, controllerWidth]; omega⟩
    | master => exact ⟨_, .tail _ (.tail _ (.head _)), rfl, by simp only [SubRect.holds, controllerWidth]; omega⟩

/-- A fill sets its value at every byte of the planes it fills (44_write_ops.md R132). -/
theorem fillEvents_set {c : Cfg} (hc : c.geometryOk = true) (hsink : sinkCfg c = true) {planes : List Plane} {x : Spot}
    (hplane : x.plane ∈ planes) (hcol : (x.col.toNat : Int) < controllerWidth c / 8)
    (hrow : (x.row.toNat : Int) < controllerHeight c) : x.SetBy c (fillEvents c planes x.value) := by
  have hram {sub : SubRect} (hsub : sub ∈ partition c (wholePanel c)) : sub.InRam c :=
    partition_inRam hc (wholePanel_clippedAligned hc) hsub
  have hkept (plane : Plane) (sub : SubRect) (hsub : sub ∈ partition c (wholePanel c)) :
      x.KeptBy c (planeBlock c plane sub (fillBytes sub x.value)) :=
    fun _ hp => planeBlock_fill_held hc hsink (hram hsub) plane x (.inr hp)
  obtain ⟨sub, hsub, ht, hin⟩ := wholePanel_covers hc x.target hcol hrow
  have hset : x.SetBy c (planeBlock c x.plane sub (fillBytes sub x.value)) :=
    fun _ => planeBlock_fill_held hc hsink (hram hsub) x.plane x (.inl ⟨ht, rfl, hin⟩)
  exact .flatMap hplane (.flatMap hsub hset (hkept x.plane)) fun plane _ => .flatMap (hkept plane)

end Sys2Proof.Machine
end

section
/-! The statements of the write operations family. -/

namespace Sys2Proof.Safety

open Sys2Proof.Machine

/-- Settles O32: the body runs as ClearScreen does, and the full refresh clears the pending refresh. -/
theorem clearScreenResult : Obligations.ClearScreenResult := by
  unfold Obligations.ClearScreenResult
  intro value s hs
  have hresult : Result s (s.operate fun s => (s.clearScreen value, .ok)) .ok _ _ :=
    operate_result rfl (clearScreen_runs s.start hs value)
  refine ⟨_, rfl, hresult, ?_, ?_⟩
  · rw [hresult.st]
    rfl
  · rw [hresult.st]
    exact afterFullRefresh_initialRefreshPending _

/-- Settles O37: the draw's body is the bodies of the three operations, and its geometry leaves a region to refresh. -/
theorem monoDrawIsWriteRefreshAgain : Obligations.MonoDrawIsWriteRefreshAgain := by
  unfold Obligations.MonoDrawIsWriteRefreshAgain
  intro s b p r wl hl clip src hs hc combines
  refine ⟨fun himage => ?_, fun hpart => ?_⟩
  · have hdraw := monoDraw_combines hs (plan := (planImage · 1 b r)) (planImage_of_placed himage)
      (alignRegion_of_imagePlaced hc himage)
    exact ⟨_, _, _, _, rfl, rfl, rfl, rfl, hdraw⟩
  · obtain ⟨hfields, hregion⟩ := alignRegion_of_partPlaced hc hpart
    have hdraw := monoDraw_combines hs (plan := (planPart · 1 8 b p r)) (planPart_of_placed hpart) hregion
    rw [← hfields] at hdraw
    exact ⟨_, _, _, _, rfl, rfl, rfl, rfl, hdraw⟩

/-- Settles O38: the bpp check passes, and the draw's body is the bodies of the two operations. -/
theorem greyDrawIsWriteRefresh : Obligations.GreyDrawIsWriteRefresh := by
  unfold Obligations.GreyDrawIsWriteRefresh
  intro s bpp f b p r wl hl clip src hs hc hf combines
  obtain ⟨hbpp, hppb⟩ := greyFormat_fields hf
  rw [← hppb, ← hbpp]
  refine ⟨fun himage => ?_, fun hpart => ?_⟩
  · have hdraw := greyDraw_combines hs hf (plan := fun c f => planImage c f.bpp b r) (planImage_of_placed himage)
      (alignRegion_of_imagePlaced hc himage)
    exact ⟨_, _, _, rfl, rfl, rfl, hdraw⟩
  · obtain ⟨hfields, hregion⟩ := alignRegion_of_partPlaced hc hpart
    have hdraw := greyDraw_combines hs hf (plan := fun c f => planPart c f.bpp f.ppb b p r) (planPart_of_placed hpart)
      hregion
    rw [← hfields] at hdraw
    exact ⟨_, _, _, rfl, rfl, rfl, hdraw⟩

/-- Settles O58: the fill sets the value at every byte of both planes, and the full refresh after it stores nothing. -/
theorem sinkClearScreenFillsBothPlanes : Obligations.SinkClearScreenFillsBothPlanes := by
  unfold Obligations.SinkClearScreenFillsBothPlanes
  intro s value p hok hsink hs
  have hc : s.cfg.geometryOk = true := (start_orderly hok).geometry
  obtain ⟨t, ht, hresult, -⟩ := clearScreenResult value s hs
  refine ⟨t, ht, fun target plane col row hcol hrow => ?_⟩
  have hplane : plane ∈ [Plane.previous, Plane.current] := by cases plane <;> simp
  have hfill := fillEvents_set hc hsink (x := ⟨target, plane, col, row, value⟩) hplane hcol hrow
  rw [hresult.events]
  exact (hfill.after _).thenKept ((Silent.fullRefresh hsink _).kept _) p

end Sys2Proof.Safety
end

section
/-! The exceptions family (60_exceptions.md). First when a request is refused for its geometry (R151): the plan of a write or a
draw, and the region of a refresh. -/

namespace Sys2Proof.Machine

open Sys2Proof.Safety

/-! ### Refused geometry -/

/-- An aligned rectangle of positive extent is clipped away exactly when it has no pixel on the panel (R70, R71). -/
theorem clipToPanel_alignWrite_eq_none {c : Cfg} (hc : c.geometryOk = true) {r : Rect} (hw : 0 < r.w) (hh : 0 < r.h) :
    clipToPanel c (alignWrite r) = none ↔ offPanel c r.x r.y r.w r.h := by
  have hpanel := panel_bounds hc
  rw [clipToPanel_eq_none]
  simp only [alignWrite, floor8, ceil8, offPanel]
  omega

/-- A plan that can only be refused for its geometry is refused exactly when it is not made. -/
theorem GeometryRefused.error_iff {plan : Except StatusCode WritePlan} (h : GeometryRefused plan) :
    plan = .error .noopGeometry ↔ ¬∃ p, plan = .ok p := by
  cases plan with
  | error code => simp [h code rfl]
  | ok p => simp

/-- The whole-bitmap operations are refused as R151's first row says. -/
theorem planImage_refused {c : Cfg} (hc : c.geometryOk = true) (bpp : Int) (b : BitmapArgs) (r : RectArgs) :
    planImage c bpp b r = .error .noopGeometry ↔ imageRefused c r := by
  have hclip := clipToPanel_alignWrite_eq_none hc (r := rectOf r)
  rw [GeometryRefused.error_iff fun _ => planImage_error, not_iff_comm]
  simp only [imageRefused, not_or, Int.not_le]
  constructor
  · rintro ⟨hw, hh, hon⟩
    obtain ⟨clip, hsome⟩ := Option.ne_none_iff_exists'.1 (mt (hclip hw hh).1 hon)
    exact ⟨_, planImage_eq_ok.2 ⟨hw, hh, clip, hsome, rfl⟩⟩
  · rintro ⟨plan, hplan⟩
    obtain ⟨hw, hh, clip, hsome, -⟩ := planImage_eq_ok.1 hplan
    exact ⟨hw, hh, mt (hclip hw hh).2 (Option.ne_none_iff_exists'.2 ⟨clip, hsome⟩)⟩

/-- A part offset inside the bitmap, aligned down, leaves some of the bitmap (R139, R142). -/
theorem limitedRect_pos {align : Int} (ha : 0 < align) {p : PartArgs} {r : RectArgs} (hw : 0 < (rectOf r).w)
    (hh : 0 < (rectOf r).h) (hx : sext16 p.xPart < sext16 p.wBitmap)
    (hy : sext16 p.yPart < sext16 p.hBitmap) : 0 < (limitedRect align p r).w ∧ 0 < (limitedRect align p r).h := by
  have hcut : 0 ≤ sext16 p.xPart % align := Int.emod_nonneg _ (by omega)
  simp only [limitedRect]
  omega

/-- The part operations are refused as R151's second row says. -/
theorem planPart_refused {c : Cfg} (hc : c.geometryOk = true) (bpp : Int) {align : Int} (ha : 0 < align) (b : BitmapArgs)
    (p : PartArgs) (r : RectArgs) : planPart c bpp align b p r = .error .noopGeometry ↔ partRefused c align p r := by
  have hclip := clipToPanel_alignWrite_eq_none hc (r := limitedRect align p r)
  rw [GeometryRefused.error_iff fun _ => planPart_error, not_iff_comm]
  simp only [partRefused, not_or, Int.not_le, Int.not_lt]
  constructor
  · rintro ⟨hwb, hhb, hw, hh, hx0, hx, hy0, hy, hon⟩
    obtain ⟨hwl, hhl⟩ := limitedRect_pos ha hw hh hx hy
    obtain ⟨clip, hsome⟩ := Option.ne_none_iff_exists'.1 (mt (hclip hwl hhl).1 hon)
    exact ⟨_, planPart_eq_ok.2 ⟨hwb, hhb, hw, hh, hx0, hx, hy0, hy, clip, hsome, rfl⟩⟩
  · rintro ⟨plan, hplan⟩
    obtain ⟨hwb, hhb, hw, hh, hx0, hx, hy0, hy, clip, hsome, -⟩ := planPart_eq_ok.1 hplan
    obtain ⟨hwl, hhl⟩ := limitedRect_pos ha hw hh hx hy
    have hon := mt (hclip hwl hhl).2 (Option.ne_none_iff_exists'.2 ⟨clip, hsome⟩)
    exact ⟨hwb, hhb, hw, hh, hx0, hx, hy0, hy, hon⟩

/-- A region is empty as R151's fourth row says (40_partitioner.md R72). -/
theorem alignRegion_eq_none {c : Cfg} (hc : c.geometryOk = true) (r : RectArgs) :
    alignRegion c (rectOf r) = none ↔ regionRefused c r := by
  have hpanel := panel_bounds hc
  rw [← not_iff_not, ← ne_eq, alignRegion_ne_none]
  simp only [rectOf, sext16, regionRefused]
  omega

/-- A source byte holds at least one pixel (42_pixel_packer.md R100). -/
theorem greyFormat_ppb_pos {c : Cfg} {bpp : Byte} {f : GreyFormat} (h : greyFormat c bpp = some f) : 0 < f.ppb := by
  unfold greyFormat at h
  split at h <;> cases h <;> exact Nat.succ_pos _

/-! ### Codes -/

/-- A request refuses with a no-op code exactly where its body answers that code: such a body ends early (R150). -/
theorem refusesExactly_of_code {s : State} {i : Instr} {body : State → State × StatusCode} {code : StatusCode}
    {refuses : Prop} (he : exec i s = .next (s.operate body)) (hs : s.st.powerIsOn = false) (hlawful : Lawful body)
    (hearly : EndsEarly body) (hnoop : code.IsNoop) (hcode : (body s.start).2 = code ↔ refuses) :
    RefusesExactly s i code refuses := by
  refine refusesExactly_of_body he hlawful hs (fun h => ?_) fun h => mt hcode.1 h
  have hanswer := hcode.2 h
  exact Prod.ext (hearly s.start (hanswer ▸ hnoop)) hanswer

/-- NOOP_GEOMETRY is one of the three codes of an early end (R150). -/
theorem StatusCode.isNoop_noopGeometry : StatusCode.noopGeometry.IsNoop := .inl rfl

/-- The code of a body that follows a plan is the plan's error, or OK (44_write_ops.md R130). -/
theorem planned_code {body : Except StatusCode WritePlan → State × StatusCode}
    (herror : ∀ code, (body (.error code)).2 = code) (hok : ∀ p, (body (.ok p)).2 = .ok) (plan : Except StatusCode WritePlan) :
    (body plan).2 = .noopGeometry ↔ plan = .error .noopGeometry := by
  cases plan with
  | error code => simp [herror]
  | ok p => simp [hok]

/-- The geometry check of a 1bpp write or draw: `body` is one of the procedures that follow a plan. -/
theorem mono_refusesExactly {s : State} {i : Instr} {body : Except StatusCode WritePlan → State → State × StatusCode}
    {plan : Cfg → Except StatusCode WritePlan} {refuses : Prop} (hs : s.st.powerIsOn = false)
    (he : exec i s = .next (s.operate fun s => body (plan s.cfg) s)) (hlawful : Lawful fun s => body (plan s.cfg) s)
    (herror : ∀ code s, body (.error code) s = (s, code)) (hok : ∀ p s, (body (.ok p) s).2 = .ok)
    (hplan : plan s.cfg = .error .noopGeometry ↔ refuses) : RefusesExactly s i .noopGeometry refuses := by
  refine refusesExactly_of_code he hs hlawful (.planned plan herror hok) StatusCode.isNoop_noopGeometry ?_
  have hcode := planned_code (body := fun plan => body plan s.start) (fun code => by rw [herror]) (fun p => hok p _)
  exact (hcode (plan s.cfg)).trans hplan

/-- The geometry check of a grayscale write or draw, which comes after the check of a supported bpp (R157). -/
theorem grey_refusesExactly {s : State} {i : Instr} {bpp : Byte} {f : GreyFormat}
    {body : GreyFormat → Except StatusCode WritePlan → State → State × StatusCode}
    {plan : Cfg → GreyFormat → Except StatusCode WritePlan} {refuses : Prop} (hs : s.st.powerIsOn = false)
    (hf : greyFormat s.cfg bpp = some f)
    (he : exec i s = .next (s.operate fun s => s.withGreyFormat bpp fun f => body f (plan s.cfg f) s))
    (hlawful : ∀ c f, Lawful (body f (plan c f))) (herror : ∀ f code s, body f (.error code) s = (s, code))
    (hok : ∀ f p s, (body f (.ok p) s).2 = .ok) (hplan : plan s.cfg f = .error .noopGeometry ↔ refuses) :
    RefusesExactly s i .noopGeometry refuses := by
  have hearly := EndsEarly.withGreyFormat bpp (body := fun f s => body f (plan s.cfg f) s) fun f =>
    .planned (body := body f) (plan · f) (herror f) (hok f)
  refine refusesExactly_of_code he hs (.withGreyFormat bpp hlawful) hearly StatusCode.isNoop_noopGeometry ?_
  have hcode := planned_code (body := fun plan => body f plan s.start) (fun code => by rw [herror]) (fun p => hok f p _)
  simp only [State.withGreyFormat, start_cfg, hf]
  exact (hcode (plan s.cfg f)).trans hplan

/-- REFRESH_REGION answers NOOP_GEOMETRY for an empty region that no upgrade applies to (43_refresh_fsm.md R123). -/
theorem regionRefresh_code (s : State) (r : Rect) :
    (s.regionRefresh r).2 = .noopGeometry ↔ s.st.upgradesRegion = false ∧ alignRegion s.cfg r = none := by
  unfold State.regionRefresh
  split
  · next hup => simp [hup]
  · next hup => split <;> simp_all

/-- REFRESH never does: the whole panel is no empty region (R122, R151). -/
theorem refreshBody_code_ne_noopGeometry {s : State} (hc : s.cfg.geometryOk = true) (onlyPart : Bool) :
    (s.refreshBody onlyPart).2 ≠ .noopGeometry := by
  cases onlyPart with
  | false => simp [State.refreshBody]
  | true => exact fun h => alignRegion_panelRect hc ((regionRefresh_code s _).1 h).2

/-- HIBERNATE answers OK or HIBERNATE_SKIPPED (R126). -/
theorem hibernateBody_code_ne_noopGeometry (s : State) : s.hibernateBody.2 ≠ .noopGeometry := by
  unfold State.hibernateBody
  dsimp only
  split <;> simp

/-- SET_REFRESH_MODE answers OK or NOOP_RESERVED (R124). -/
theorem setMode_code_ne_noopGeometry (s : State) (mode : RefreshMode) : (s.setMode mode).2 ≠ .noopGeometry := by
  cases mode <;> simp [State.setMode]

/-- A request whose body never answers NOOP_GEOMETRY never presents it. -/
theorem refusesExactly_false {s : State} {i : Instr} {body : State → State × StatusCode} {code : StatusCode}
    (hs : s.st.powerIsOn = false) (he : exec i s = .next (s.operate body)) (hlawful : Lawful body)
    (hcode : (body s.start).2 ≠ code) : RefusesExactly s i code False :=
  refusesExactly_of_body he hlawful hs False.elim fun _ => hcode

end Sys2Proof.Machine
end

section
/-! One input of the port a step (60_exceptions.md R163): a run over the inputs that wait. -/

namespace Sys2Proof.Machine

open Sys2Proof.Safety

/-- An instruction leaves an IDLE engine IDLE (10_state.md R19). -/
theorem exec_engine_idle {i : Instr} {s t : State} (hidle : s.engine = .idle) (h : exec i s = .next t) : t.engine = .idle := by
  cases hi : isRequest i with
  | false =>
    obtain ⟨es, he⟩ := exec_command hi s
    cases he.symm.trans h
    exact hidle
  | true =>
    obtain ⟨body, -, he⟩ := exec_request hi
    cases (he s).symm.trans h
    rfl

/-- Only host inputs wait when no lone command does. -/
theorem onlyHostInputs_iff {s : State} : onlyHostInputs s = true ↔ ∀ bytes, Input.submit (.command bytes) ∉ s.port := by
  simp only [onlyHostInputs, List.all_eq_true]
  constructor
  · exact fun h bytes hmem => Bool.false_ne_true (h _ hmem)
  · intro h input hmem
    match input with
    | .submit (.request _) => rfl
    | .submit (.command bytes) => exact absurd hmem (h bytes)
    | .reset => rfl
    | .store _ _ _ => rfl

/-- An IDLE engine under an admissible CFG, with host inputs waiting only. -/
structure AwaitsHost (s : State) : Prop where
  idle : s.engine = .idle
  ok : s.cfg.ok = true
  host : ∀ bytes, Input.submit (.command bytes) ∉ s.port

/-- The first input has been served (R163): the engine is IDLE, CFG is unchanged and the input is gone from the port. -/
structure ServedFirst (s t : State) : Prop where
  idle : t.engine = .idle
  cfg : t.cfg = s.cfg
  port : t.port = s.port.drop 1

theorem ServedFirst.awaitsHost {s t : State} (h : ServedFirst s t) (hs : AwaitsHost s) : AwaitsHost t where
  idle := h.idle
  ok := by rw [h.cfg]; exact hs.ok
  host bytes hmem := hs.host bytes (List.mem_of_mem_drop (h.port ▸ hmem))

/-- An accepted request runs to its end (R150, R163). -/
theorem step_request_served {s : State} {d : Descriptor} {rest : List Input} (hs : AwaitsHost s)
    (hp : s.port = .submit (.request d) :: rest) : ∃ t, step s = .next t ∧ ServedFirst s t := by
  obtain ⟨t, ht⟩ := exec_total (decodeRequest d) ((s.served rest).accept (.request d))
  have hkept := nothingElseWritten _ _ _ ht
  have hidle : ((s.served rest).accept (.request d)).engine = .idle := hs.idle
  refine ⟨t, (step_submit hp hs.idle hs.ok rfl).trans ht, exec_engine_idle hidle ht, hkept.cfg, ?_⟩
  rw [hp]
  exact hkept.port

/-- Every step of a machine that awaits host inputs serves the first of them, or finds none. -/
theorem AwaitsHost.step {s : State} (hs : AwaitsHost s) : ∃ t, Machine.step s = .next t ∧ ServedFirst s t := by
  cases hp : s.port with
  | nil => exact ⟨s, by simp [Machine.step, fetch, hp], hs.idle, rfl, by rw [hp]; rfl⟩
  | cons input rest =>
    match input with
    | .submit (.request d) => exact step_request_served hs hp
    | .submit (.command bytes) => exact absurd (hp ▸ List.mem_cons_self) (hs.host bytes)
    | .reset => exact ⟨_, step_reset hp, rfl, rfl, by rw [hp]; rfl⟩
    | .store space a b =>
      have hport : ((s.served rest).hostStore space a b).port = s.port.drop 1 := by
        rw [hp]
        cases space <;> rfl
      refine ⟨_, step_store hp hs.idle, ?_, ?_, hport⟩
      · cases space <;> exact hs.idle
      · cases space <;> rfl

/-- A run begins with a step that answers a next state. -/
theorem core_run_succ (M : Host.Core) {s t : M.State} (k : Nat) (h : M.step s = .next t) :
    M.run (k + 1) s = M.run k t := by
  simp only [Host.Core.run, h]

/-- A run of any length serves one input a step, in order (R163). -/
theorem AwaitsHost.run {s : State} (hs : AwaitsHost s) (k : Nat) :
    ∃ t, core.run k s = .next t ∧ t.engine = .idle ∧ t.cfg = s.cfg ∧ t.port = s.port.drop k := by
  induction k generalizing s with
  | zero => exact ⟨s, rfl, hs.idle, rfl, rfl⟩
  | succ k ih =>
    obtain ⟨u, hstep, hserved⟩ := hs.step
    obtain ⟨t, hrun, hidle, hcfg, hport⟩ := ih (hserved.awaitsHost hs)
    refine ⟨t, (core_run_succ core k hstep).trans hrun, hidle, hcfg.trans hserved.cfg, ?_⟩
    rw [hport, hserved.port, List.drop_drop, Nat.add_comm]

end Sys2Proof.Machine
end

section
/-! The statements of the exceptions family. -/

namespace Sys2Proof.Safety

open Sys2Proof.Machine

/-- Settles O6: the three properties of AwaitsHost are kept by every step, and each step serves one input. -/
theorem requestsServedInOrder : Obligations.RequestsServedInOrder := by
  unfold Obligations.RequestsServedInOrder
  intro s k hidle hok hhost
  exact AwaitsHost.run ⟨hidle, hok, onlyHostInputs_iff.1 hhost⟩ k

/-- R151 for the 1bpp operations: the two writes and the draw of one plan. -/
theorem mono_geometryErrors {s : State} (hs : s.st.powerIsOn = false) {plan : Cfg → Except StatusCode WritePlan}
    {refuses : Prop} (hplan : plan s.cfg = .error .noopGeometry ↔ refuses) {i : Instr}
    (hi : (∃ planes, exec i s = .next (s.operate fun s => s.monoWrite planes (plan s.cfg))) ∨
      exec i s = .next (s.operate fun s => s.monoDraw (plan s.cfg))) : RefusesExactly s i .noopGeometry refuses := by
  rcases hi with ⟨planes, he⟩ | he
  · exact mono_refusesExactly (body := fun plan s => s.monoWrite planes plan) hs he (.monoWrite planes plan)
      (fun _ _ => rfl) (fun _ _ => rfl) hplan
  · exact mono_refusesExactly (body := fun plan s => s.monoDraw plan) hs he (.monoDraw plan) (fun _ _ => rfl)
      (fun _ _ => rfl) hplan

/-- R151 for the grayscale operations: the write and the draw of one plan. -/
theorem grey_geometryErrors {s : State} (hs : s.st.powerIsOn = false) {bpp : Byte} {f : GreyFormat}
    (hf : greyFormat s.cfg bpp = some f) {plan : Cfg → GreyFormat → Except StatusCode WritePlan} {refuses : Prop}
    (hplan : plan s.cfg f = .error .noopGeometry ↔ refuses) {i : Instr}
    (hi : exec i s = .next (s.operate fun s => s.withGreyFormat bpp fun f => s.greyWrite f (plan s.cfg f)) ∨
      exec i s = .next (s.operate fun s => s.withGreyFormat bpp fun f => s.greyDraw f (plan s.cfg f))) :
    RefusesExactly s i .noopGeometry refuses := by
  rcases hi with he | he
  · exact grey_refusesExactly (body := fun f plan s => s.greyWrite f plan) hs hf he (fun c f => .greyWrite f (plan c f))
      (fun _ _ _ => rfl) (fun _ _ _ => rfl) hplan
  · exact grey_refusesExactly (body := fun f plan s => s.greyDraw f plan) hs hf he (fun c f => .greyDraw f (plan c f))
      (fun _ _ _ => rfl) (fun _ _ _ => rfl) hplan

/-- Settles O21: each body's code is its plan's error or its region's, and a body with neither answers another code. -/
theorem geometryErrorsAreNoops : Obligations.GeometryErrorsAreNoops := by
  unfold Obligations.GeometryErrorsAreNoops
  intro s bpp value f b p r m onlyPart hs hc hf
  have himage (n : Int) := planImage_refused hc n b r
  have hpart := planPart_refused hc 1 (by decide : (0 : Int) < 8) b p r
  have hpartGrey := planPart_refused hc f.bpp (Int.natCast_pos.2 (greyFormat_ppb_pos hf)) b p r
  simp only [List.forall_mem_cons, List.not_mem_nil, false_implies, implies_true, and_true]
  refine ⟨⟨?_, ?_, ?_, ?_, ?_⟩, ⟨?_, ?_, ?_⟩, ⟨?_, ?_⟩, ?_, ?_, ?_, ?_, ?_, ?_, ?_, ?_⟩
  · exact mono_geometryErrors hs (plan := (planImage · 1 b r)) (himage 1) (.inl ⟨[.current], rfl⟩)
  · exact mono_geometryErrors hs (plan := (planImage · 1 b r)) (himage 1) (.inl ⟨[.previous, .current], rfl⟩)
  · exact grey_geometryErrors hs hf (plan := fun c f => planImage c f.bpp b r) (himage f.bpp) (.inl rfl)
  · exact mono_geometryErrors hs (plan := (planImage · 1 b r)) (himage 1) (.inr rfl)
  · exact grey_geometryErrors hs hf (plan := fun c f => planImage c f.bpp b r) (himage f.bpp) (.inr rfl)
  · exact mono_geometryErrors hs (plan := (planPart · 1 8 b p r)) hpart (.inl ⟨[.current], rfl⟩)
  · exact mono_geometryErrors hs (plan := (planPart · 1 8 b p r)) hpart (.inl ⟨[.previous, .current], rfl⟩)
  · exact mono_geometryErrors hs (plan := (planPart · 1 8 b p r)) hpart (.inr rfl)
  · exact grey_geometryErrors hs hf (plan := fun c f => planPart c f.bpp f.ppb b p r) hpartGrey (.inl rfl)
  · exact grey_geometryErrors hs hf (plan := fun c f => planPart c f.bpp f.ppb b p r) hpartGrey (.inr rfl)
  · refine refusesExactly_of_code rfl hs (.regionRefresh (rectOf r)) (.regionRefresh fun _ => rectOf r)
      StatusCode.isNoop_noopGeometry ((regionRefresh_code s.start (rectOf r)).trans ?_)
    rw [start_cfg, alignRegion_eq_none hc, not_upgradesRegion_iff, and_assoc, and_assoc]
    rfl
  · exact refusesExactly_false hs rfl (.clearScreen value) (by simp)
  · exact refusesExactly_false hs rfl (.fillBody [.current] value) (by simp)
  · exact refusesExactly_false hs rfl (.fillBody [.previous, .current] value) (by simp)
  · exact refusesExactly_false hs rfl (.refreshBody onlyPart) (refreshBody_code_ne_noopGeometry (s := s.start) hc onlyPart)
  · exact refusesExactly_false hs rfl (.setMode m) (setMode_code_ne_noopGeometry s.start m)
  · exact refusesExactly_false hs rfl .powerOff (by simp)
  · exact refusesExactly_false hs rfl .hibernateBody (hibernateBody_code_ne_noopGeometry s.start)

end Sys2Proof.Safety
end
